-- ==== Sys2Proof/Word.lean ====
section
/-! DEFINITION. The words of the part: bytes, two-byte and four-byte quantities, and the 11-bit characters of a fly bus line. -/

namespace Sys2Proof

/-- One byte of a frame or an image (R191, R192). -/
abbrev Byte := BitVec 8

/-- A two-byte quantity, sent most significant byte first (R191). -/
abbrev Word16 := BitVec 16

/-- A four-byte quantity: a station serial (R104), the hang digest (R26). -/
abbrev Word32 := BitVec 32

/-- One character of a fly bus line, start bit first in time: bit 0 is the start bit, bits 1 to 8 the data bits,
bit 9 the mark bit and bit 10 the stop bit; a marking bit is 1 (R95). -/
abbrev LineChar := BitVec 11

end Sys2Proof
end

