-- ==== Sys2Proof/Config.lean ====
section
/-! DEFINITION. What this member of the family fixes (its table sizes), the defaults of optional request fields, and the model's free values. -/

namespace Sys2Proof.Config

/-- Sets 1 to 128 (R5). -/
abbrev numSets : Nat := 128
/-- Bonds 1 to 16 (R15). -/
abbrev numBonds : Nat := 16
/-- Keep-outs 1 to 16 (R55). -/
abbrev numKeepouts : Nat := 16
/-- Claims 1 to 160 (R29). -/
abbrev numClaims : Nat := 160
/-- Groups 1 to 24 (R78). -/
abbrev numGroups : Nat := 24
/-- Station addresses 1 to 64 on each segment (R98). -/
abbrev numStations : Nat := 64
/-- The attention sources (R181). -/
abbrev numSources : Nat := 20
/-- The response queue of a link holds up to 4 responses (R170). -/
abbrev queueDepth : Nat := 4
/-- Members of an ensemble group (R78). -/
abbrev maxGroupMembers : Nat := 12
/-- LIST CLAIMS returns at most 32 numbers (R54). -/
abbrev maxListed : Nat := 32
/-- Misses in a row that make a station stale (R109). -/
abbrev staleMisses : Nat := 3
/-- Counted polls of one member before NO_TAKE (R127). -/
abbrev takeLimit : Nat := 5
/-- Millimetres by which a member must come closer to have progressed (R130). -/
abbrev progressStep : Nat := 10
/-- A disagreement is marked when it exceeds 50 ms, that is at the 51st millisecond of the model's clock (R155; log entry 4). -/
abbrev discrepancyMs : Nat := 51

/-- Default stop constant, in ms (R2). -/
abbrev defaultStopConstant : Nat := 600
/-- Default arrival tolerance, in mm (R5). -/
abbrev defaultArrivalTol : Nat := 5
/-- Default stall window, in ms (R5). -/
abbrev defaultStallWindow : Nat := 2000
/-- Default sway allowance, in mm (R5). -/
abbrev defaultSway : Nat := 50
/-- Default skew tolerance, in mm (R15). -/
abbrev defaultSkew : Nat := 25

/-- FREE VALUE (DESIGN CHOICE, log entry 9). The position read for set `n` where a record that should hold one holds
none. The rules keep such a record from arising; nothing in Lean can evaluate this constant. -/
opaque absentPosition : Nat → Int

/-- FREE VALUE (DESIGN CHOICE, log entry 8). The two bytes sent for a region bound that does not fit the 16-bit
two's complement field R191 gives it (a depth of 34 500 mm can arise); the manual states no result there. -/
opaque boundOverflow : Int → Word16

end Sys2Proof.Config
end

