-- ==== Sys2Proof/Syntax.lean ====
section
/-! DEFINITION. The commands the part takes: one constructor of Instr for each row of spec/opcode_table.json, with its operands. -/

namespace Sys2Proof

/-- The three desk links (R164). -/
inductive Link
  | dl0 | dl1 | dl2
  deriving DecidableEq, Repr

/-- The two fly bus segments (R95). -/
inductive Segment
  | fb0 | fb1
  deriving DecidableEq, Repr

/-- The class of a claim or group (R30, R78): SHOW or WORK. -/
inductive ClaimClass
  | forShow | forWork
  deriving DecidableEq, Repr

/-- The kind of a claim (R30). -/
inductive ClaimKind
  | move | standby
  deriving DecidableEq, Repr

/-- A mover: a set that belongs to no bond, or a bond (R4). -/
inductive Mover
  | set (n : Nat)
  | bond (n : Nat)
  deriving DecidableEq, Repr

/-- The stop mode of a rig entry (R2). -/
inductive StopMode
  | auto | fixed
  deriving DecidableEq, Repr

/-- The two emergency-stop channels (R154). -/
inductive Channel
  | a | b
  deriving DecidableEq, Repr

/-- The hang of a set: piece profile, sway allowance and load window (R5). -/
structure Hang where
  top : Nat
  drop : Nat
  fore : Nat
  aft : Nat
  sway : Nat
  loadMin : Nat
  loadMax : Nat
  deriving DecidableEq, Repr

/-- The fields of a CLAIM request (R45), in the shape of its payload (R193): `first` and `second` are the target and
requested speed of a MOVE, or the reserve below and the reserve above of a STANDBY. -/
structure ClaimReq where
  kind : ClaimKind
  cls : ClaimClass
  mover : Mover
  waitAllowed : Bool
  keep : Bool
  cueTag : Option Nat
  first : Nat
  second : Nat
  waitLimit : Option Nat
  group : Option Nat
  deadline : Option Nat
  deriving DecidableEq, Repr

/-- The fields of a RETARGET request (R48). -/
structure RetargetReq where
  claim : Nat
  target : Nat
  speed : Option Nat
  deriving DecidableEq, Repr

/-- The fields of an ADD KEEPOUT request (R56). -/
structure KeepoutReq where
  depthLo : Int
  depthHi : Int
  heightLo : Int
  heightHi : Int
  tag : Option Nat
  deriving DecidableEq, Repr

/-- The fields of a LIST CLAIMS request (R54); the owner is coded DL0, DL1, DL2 from 0. -/
structure ListReq where
  start : Nat
  owner : Option Nat
  deriving DecidableEq, Repr

/-- The fields of an OPEN GROUP request (R80). -/
structure OpenGroupReq where
  cls : ClaimClass
  sync : Bool
  expected : Nat
  waitLimit : Option Nat
  deriving DecidableEq, Repr

/-- The fields of a CONFIGURE SET request (R17): a rig entry and a hang, of which four fields may be absent and take
their defaults, and the fixed allowance is present in FIXED mode. -/
structure ConfigureReq where
  set : Nat
  segment : Segment
  address : Nat
  depth : Nat
  lower : Nat
  upper : Nat
  rated : Nat
  stopMode : StopMode
  stopConstant : Option Nat
  fixedAllowance : Option Nat
  arrivalTol : Option Nat
  stallWindow : Option Nat
  top : Nat
  drop : Nat
  fore : Nat
  aft : Nat
  sway : Option Nat
  loadMin : Nat
  loadMax : Nat
  deriving DecidableEq, Repr

/-- The fields of a REHANG request (R19). -/
structure RehangReq where
  set : Nat
  hang : Hang
  deriving DecidableEq, Repr

/-- The fields of a BIND request (R22). -/
structure BindReq where
  sets : List Nat
  skew : Option Nat
  deriving DecidableEq, Repr

/-- The sources a CLEAR ATTENTION names: ALL, or a list of source codes in the order of R192 (R185). -/
inductive ClearSel
  | all
  | named (codes : List Nat)
  deriving DecidableEq, Repr

/-- The fields of a CLEAR ATTENTION request (R185). -/
structure ClearReq where
  sel : ClearSel
  expected : Option Nat
  deriving DecidableEq, Repr

/-- The parameter named by SET PARAMETER or READ PARAMETER: its code in the order of the table of R178, and its
instance where it has one (R178). -/
structure ParamName where
  name : Nat
  which : Option Nat
  deriving DecidableEq, Repr

/-- A completed report as it came over the line, byte by byte (R194). The constructor is the form marker; `ignored` is
bits 4 to 6 of the form byte. -/
inductive WireReport
  | ordinary (address : Byte) (echo : Bool) (ignored : BitVec 3) (status : Byte) (position velocity load : Word16) (check : Byte)
  | ident (address : Byte) (echo : Bool) (ignored : BitVec 3) (commissioned : Byte) (serial : Word32) (check : Byte)
  deriving DecidableEq, Repr

/-- Why a report became unreadable at one of its characters (R97, R194). -/
inductive Unreadable
  | badCharacter
  | wrongForm
  deriving DecidableEq, Repr

/-- The two strap pins of a link, true for high (R166). -/
structure Straps where
  role1 : Bool
  role0 : Bool
  deriving DecidableEq, Repr

/-- The pins a cold reset samples: the role straps (R166) and the two emergency-stop channels, true for low, which is
active (R153, R154). -/
structure ResetPins where
  straps0 : Straps
  straps1 : Straps
  straps2 : Straps
  estopALow : Bool
  estopBLow : Bool
  deriving DecidableEq, Repr

/-- A desk request, as a good frame spells it: one constructor for each request kind of R192, without its tag. -/
inductive Request
  | presence
  | stop
  | holdAll
  | holdClaim (claim : Nat)
  | releaseAll
  | resume
  | claim (q : ClaimReq)
  | retarget (q : RetargetReq)
  | retire (claim : Nat)
  | releaseClaim (claim : Nat)
  | addKeepout (q : KeepoutReq)
  | retireKeepout (keepout : Nat)
  | warmRestart
  | adopt (source : Nat)
  | lookupClaim (claim : Nat)
  | listClaims (q : ListReq)
  | lookupKeepout (keepout : Nat)
  | openGroup (q : OpenGroupReq)
  | closeGroup (group : Nat)
  | cancelGroup (group : Nat)
  | lookupGroup (group : Nat)
  | configureSet (q : ConfigureReq)
  | releaseSet (set : Nat)
  | rehang (q : RehangReq)
  | lockHang (set : Option Nat)
  | unlockHang (set : Option Nat)
  | reinstate (set : Nat)
  | bind (q : BindReq)
  | unbind (bond : Nat)
  | lookupSet (set : Nat)
  | lookupBond (bond : Nat)
  | readDigest
  | loopTest (segment : Nat)
  | lookupSegment (segment : Nat)
  | lookupStation (segment address : Nat)
  | clearAttention (q : ClearReq)
  | clearFaults (set : Option Nat)
  | readAttention
  | setParameter (p : ParamName) (value : Nat)
  | readParameter (p : ParamName)
  deriving DecidableEq, Repr

/-- The commands of the part, one for each row of spec/opcode_table.json. The first forty-one are requests: the step in
which the owning block takes a request of link `l`, whose tag is `tag` (R167). The others are the events of the links,
the fly bus controllers, the timers, the pins and the hand-offs between blocks. A segment or an owner that the manual
lets a desk name wrongly is a number; `none` for the set of LOCK HANG, UNLOCK HANG or CLEAR FAULTS means all sets. -/
inductive Instr
  | presence (l : Link) (tag : Word16)
  | stop (l : Link) (tag : Word16)
  | holdAll (l : Link) (tag : Word16)
  | holdClaim (l : Link) (tag : Word16) (claim : Nat)
  | releaseAll (l : Link) (tag : Word16)
  | resume (l : Link) (tag : Word16)
  | claim (l : Link) (tag : Word16) (q : ClaimReq)
  | retarget (l : Link) (tag : Word16) (q : RetargetReq)
  | retire (l : Link) (tag : Word16) (claim : Nat)
  | releaseClaim (l : Link) (tag : Word16) (claim : Nat)
  | addKeepout (l : Link) (tag : Word16) (q : KeepoutReq)
  | retireKeepout (l : Link) (tag : Word16) (keepout : Nat)
  | warmRestart (l : Link) (tag : Word16)
  | adopt (l : Link) (tag : Word16) (source : Nat)
  | lookupClaim (l : Link) (tag : Word16) (claim : Nat)
  | listClaims (l : Link) (tag : Word16) (q : ListReq)
  | lookupKeepout (l : Link) (tag : Word16) (keepout : Nat)
  | openGroup (l : Link) (tag : Word16) (q : OpenGroupReq)
  | closeGroup (l : Link) (tag : Word16) (group : Nat)
  | cancelGroup (l : Link) (tag : Word16) (group : Nat)
  | lookupGroup (l : Link) (tag : Word16) (group : Nat)
  | configureSet (l : Link) (tag : Word16) (q : ConfigureReq)
  | releaseSet (l : Link) (tag : Word16) (set : Nat)
  | rehang (l : Link) (tag : Word16) (q : RehangReq)
  | lockHang (l : Link) (tag : Word16) (set : Option Nat)
  | unlockHang (l : Link) (tag : Word16) (set : Option Nat)
  | reinstate (l : Link) (tag : Word16) (set : Nat)
  | bind (l : Link) (tag : Word16) (q : BindReq)
  | unbind (l : Link) (tag : Word16) (bond : Nat)
  | lookupSet (l : Link) (tag : Word16) (set : Nat)
  | lookupBond (l : Link) (tag : Word16) (bond : Nat)
  | readDigest (l : Link) (tag : Word16)
  | loopTest (l : Link) (tag : Word16) (segment : Nat)
  | lookupSegment (l : Link) (tag : Word16) (segment : Nat)
  | lookupStation (l : Link) (tag : Word16) (segment address : Nat)
  | clearAttention (l : Link) (tag : Word16) (q : ClearReq)
  | clearFaults (l : Link) (tag : Word16) (set : Option Nat)
  | readAttention (l : Link) (tag : Word16)
  | setParameter (l : Link) (tag : Word16) (p : ParamName) (value : Nat)
  | readParameter (l : Link) (tag : Word16) (p : ParamName)
  | unknownRequest (l : Link) (tag : Word16) (kind : Byte)
  | deskFrameBegin (l : Link) (first : Byte)
  | deskFrameEnd (l : Link) (rest : List Byte) (framingError : Bool)
  | postedRequestTaken (l : Link)
  | priorityRequestTaken (l : Link)
  | responseTransmitStart (l : Link)
  | responseTransmitEnd (l : Link)
  | presenceWindowExpiry (l : Link)
  | pollBuild (f : Segment)
  | responseWindowExpiry (f : Segment)
  | reportGapExpiry (f : Segment)
  | reportComplete (f : Segment) (r : WireReport)
  | setReport (f : Segment)
  | identReport (f : Segment)
  | faultSummaryOutcome (f : Segment)
  | tmPollOutcome (f : Segment)
  | freshFlagClearedNotice (f : Segment)
  | stallTimerExpiry (claim : Nat)
  | stopWindowRunOut (claim : Nat)
  | deadlineExpiry (claim : Nat)
  | waitLimitExpiry (claim : Nat)
  | groupWaitLimitExpiry (group : Nat)
  | estopChannelEvent (c : Channel) (low : Bool)
  | discrepancyTimerExpiry
  | breakDetected (f : Segment)
  | breakEnd (f : Segment)
  | testFrameCompared (f : Segment) (returned : List (Option LineChar))
  | coldReset (pins : ResetPins)
  | reportUnreadable (f : Segment) (why : Unreadable)
  deriving DecidableEq, Repr

end Sys2Proof
end

