-- ==== Sys2Proof/Decode.lean ====
section
/-! DEFINITION. The command a word spells by the bits of spec/opcode_table.json: its rows give no bits, so no word spells a command. -/

namespace Sys2Proof

/-- No row of spec/opcode_table.json gives bits ("fields" is empty in each), so no word is a command. -/
def decodeTableWord (_nbits _w : Nat) : Option Instr := none

end Sys2Proof
end

