-- ==== Sys2Proof/Machine/Crc.lean ====
section
/-! DEFINITION. The three CRC computations of Frame Formats and the byte order of its quantities (R191, R192, R194, R195). -/

namespace Sys2Proof

/-- The bits of a byte, most significant first (R192: "Each byte is entered most significant bit first"). -/
def byteBits (b : Byte) : List Bool :=
  [b.getLsbD 7, b.getLsbD 6, b.getLsbD 5, b.getLsbD 4, b.getLsbD 3, b.getLsbD 2, b.getLsbD 1, b.getLsbD 0]

/-- One bit entered into a CRC register of `w` bits with generator `poly` (its top term left out). -/
def crcBit {w : Nat} (poly reg : BitVec w) (bit : Bool) : BitVec w :=
  if reg.msb = bit then reg <<< 1 else (reg <<< 1) ^^^ poly

/-- A CRC register after a string of bytes. -/
def crcBytes {w : Nat} (poly : BitVec w) (reg : BitVec w) (bytes : List Byte) : BitVec w :=
  bytes.foldl (fun r b => (byteBits b).foldl (crcBit poly) r) reg

/-- The check byte of fly bus frames: x^8 + x^5 + x^3 + x^2 + x + 1, preset to all ones, not inverted (R194). -/
def crc8 (bytes : List Byte) : Byte := crcBytes 0x2F#8 0xFF#8 bytes

/-- The CRC-16 of desk frames: x^16 + x^12 + x^5 + 1, preset to all ones, not inverted (R192). -/
def crc16 (bytes : List Byte) : Word16 := crcBytes 0x1021#16 0xFFFF#16 bytes

/-- The CRC-32 of the hang digest: the generator of R195, preset to all ones, inverted. -/
def crc32 (bytes : List Byte) : Word32 := ~~~ (crcBytes 0x04C11DB7#32 0xFFFFFFFF#32 bytes)

/-- The low byte of a number. -/
def byteOf (n : Nat) : Byte := BitVec.ofNat 8 n

/-- A quantity of two bytes, most significant first (R191). -/
def be16 (n : Nat) : List Byte := [byteOf (n / 256), byteOf n]

/-- A word of two bytes, most significant first (R191). -/
def bytes16 (w : Word16) : List Byte := be16 w.toNat

/-- A word of four bytes, most significant first (R191). -/
def bytes32 (w : Word32) : List Byte :=
  [byteOf (w.toNat / 16777216), byteOf (w.toNat / 65536), byteOf (w.toNat / 256), byteOf w.toNat]

/-- A signed quantity of two bytes, two's complement (R191). -/
def be16i (i : Int) : List Byte := bytes16 (BitVec.ofInt 16 i)

/-- The two bytes of a word, read most significant first (R191). -/
def word16 (hi lo : Byte) : Word16 := hi ++ lo

end Sys2Proof
end

