-- ==== Sys2Proof/Machine/Tables.lean ====
section
/-! DEFINITION. Numbered tables: records 1 to n held in a vector, one value for each link, one for each segment, and the numbers a table counts by. -/

namespace Sys2Proof

namespace Tab

/-- Record `n` of a table whose records are numbered from 1. -/
def get? {α : Type} {k : Nat} (t : Vector α k) (n : Nat) : Option α :=
  if n = 0 then none else t[n - 1]?

/-- The table with record `n` replaced; a number outside the table changes nothing. -/
def put {α : Type} {k : Nat} (t : Vector α k) (n : Nat) (x : α) : Vector α k :=
  if n = 0 then t else t.setIfInBounds (n - 1) x

/-- The record numbers of a table of `k` records, ascending. -/
def numbers (k : Nat) : List Nat := List.range' 1 k

/-- The lowest number free in a table whose free records are `none` ("Where a record is created, its number is the
lowest number free in its table at that moment", 00_scope, Numbering). -/
def firstFree {α : Type} {k : Nat} (t : Vector (Option α) k) : Option Nat :=
  (numbers k).find? fun n => (get? t n).any Option.isNone

/-- Record `n` where it is in use. -/
def record? {α : Type} {k : Nat} (t : Vector (Option α) k) (n : Nat) : Option α := (get? t n).join

/-- How many records are in use. -/
def used {α : Type} {k : Nat} (t : Vector (Option α) k) : Nat :=
  ((numbers k).filter fun n => (record? t n).isSome).length

end Tab

/-- One value for each desk link. -/
structure PerLink (α : Type) where
  dl0 : α
  dl1 : α
  dl2 : α
  deriving DecidableEq, Repr

/-- The value of link `l`. -/
def PerLink.get {α : Type} (t : PerLink α) : Link → α
  | .dl0 => t.dl0
  | .dl1 => t.dl1
  | .dl2 => t.dl2

/-- The value of link `l` replaced. -/
def PerLink.put {α : Type} (t : PerLink α) (l : Link) (x : α) : PerLink α :=
  match l with
  | .dl0 => { t with dl0 := x }
  | .dl1 => { t with dl1 := x }
  | .dl2 => { t with dl2 := x }

/-- The next link in the order DL0, DL1, DL2, DL0 (00_scope, Numbering). -/
def Link.next : Link → Link
  | .dl0 => .dl1
  | .dl1 => .dl2
  | .dl2 => .dl0

/-- The code of a link: its position in the list DL0, DL1, DL2 (R191). -/
def Link.code : Link → Nat
  | .dl0 => 0
  | .dl1 => 1
  | .dl2 => 2

/-- The link of a code. -/
def Link.ofCode? : Nat → Option Link
  | 0 => some .dl0
  | 1 => some .dl1
  | 2 => some .dl2
  | _ => none

/-- One value for each fly bus segment. -/
structure PerSegment (α : Type) where
  fb0 : α
  fb1 : α
  deriving DecidableEq, Repr

/-- The value of segment `f`. -/
def PerSegment.get {α : Type} (t : PerSegment α) : Segment → α
  | .fb0 => t.fb0
  | .fb1 => t.fb1

/-- The value of segment `f` replaced. -/
def PerSegment.put {α : Type} (t : PerSegment α) (f : Segment) (x : α) : PerSegment α :=
  match f with
  | .fb0 => { t with fb0 := x }
  | .fb1 => { t with fb1 := x }

/-- The code of a segment: its position in the list FB0, FB1 (R191). -/
def Segment.code : Segment → Nat
  | .fb0 => 0
  | .fb1 => 1

/-- The segment of a code. -/
def Segment.ofCode? : Nat → Option Segment
  | 0 => some .fb0
  | 1 => some .fb1
  | _ => none

end Sys2Proof
end

