-- ==== Sys2Proof/Machine/State.lean ====
section
/-! DEFINITION. The records of the eight blocks, as plain data; the state they make up; the state after cold reset. -/

namespace Sys2Proof.Machine

/-- A region of the depth and height plane: two closed intervals of signed bounds (00_scope, Regions). -/
structure Region where
  depthLo : Int
  depthHi : Int
  heightLo : Int
  heightHi : Int
  deriving DecidableEq, Repr

/-! ## Set Registry -/

/-- The rig entry of a set (R5). -/
structure RigEntry where
  segment : Segment
  address : Nat
  depth : Nat
  lower : Nat
  upper : Nat
  rated : Nat
  stopMode : StopMode
  stopConstant : Nat
  fixedAllowance : Option Nat
  arrivalTol : Nat
  stallWindow : Nat
  deriving DecidableEq, Repr

/-- Rig entry and hang, which are present or absent together (R5). -/
structure Setup where
  rig : RigEntry
  hang : Hang
  deriving DecidableEq, Repr

/-- The state of a set (R5). -/
inductive SetState
  | vacant | dark | resting | engaged | barred
  deriving DecidableEq, Repr

/-- The nine named station status codes (R105). -/
inductive Status
  | ready | running | stopping | braked | overload | slack | overspeed | limit | drive
  deriving DecidableEq, Repr

/-- Why a set is BARRED (R5). -/
inductive BarredCause
  | station | drift | identity | trim | conflict | load | faultedClaim
  deriving DecidableEq, Repr

/-- The content of a valid ordinary report (R104), also a set's last reported fields (R5). -/
structure Report where
  status : Status
  position : Int
  velocity : Int
  load : Nat
  deriving DecidableEq, Repr

/-- One set record (R5). -/
structure SetRec where
  setup : Option Setup
  state : SetState
  identityVerified : Bool
  restPosition : Option Int
  lastReport : Option Report
  locked : Bool
  bond : Option Nat
  claim : Option Nat
  barredCause : Option BarredCause
  deriving DecidableEq, Repr

/-- A set record after cold reset (R5, R28). -/
def SetRec.vacant : SetRec :=
  { setup := none, state := .vacant, identityVerified := false, restPosition := none, lastReport := none,
    locked := false, bond := none, claim := none, barredCause := none }

/-- A bond record in use (R15). -/
structure BondRec where
  members : List Nat
  skew : Nat
  claim : Option Nat
  deriving DecidableEq, Repr

/-! ## Clearance Table -/

/-- The state of a claim (R30). -/
inductive ClaimState
  | waiting | granted | moving | held | retiring | arrived | standing | faulted
  deriving DecidableEq, Repr

/-- The set of hold reasons of a claim; SEGMENT is present while its segment list is not empty (R146). -/
structure Reasons where
  operator : Bool
  all : Bool
  estop : Bool
  segment0 : Bool
  segment1 : Bool
  deskLost : Bool
  column : Bool
  group : Bool
  deriving DecidableEq, Repr

/-- The empty set of reasons (R146). -/
def Reasons.empty : Reasons :=
  { operator := false, all := false, estop := false, segment0 := false, segment1 := false, deskLost := false,
    column := false, group := false }

/-- The fault cause of a claim (R30). -/
inductive FaultCause
  | noTake | stall | noStop | breach | skew | load | stale
  | station (c : Status)
  deriving DecidableEq, Repr

/-- What a member's fresh report field holds (R121). -/
structure FreshReport where
  status : Status
  position : Int
  load : Nat
  deriving DecidableEq, Repr

/-- The part of a supervision record held for each member (R121). -/
structure SupMember where
  set : Nat
  segment : Segment
  address : Nat
  takeCount : Nat
  takenMark : Bool
  fresh : Option FreshReport
  lastPosition : Int
  stallRef : Option Nat
  deriving DecidableEq, Repr

/-- The take window (R121). -/
inductive TakeWindow
  | running | paused | stopped
  deriving DecidableEq, Repr

/-- The stop window, with its elapsed ms (R121, R132). -/
inductive StopWindow
  | stopped
  | running (elapsed : Nat)
  | runOut
  deriving DecidableEq, Repr

/-- The deadline timer, with its remaining ms (R121, R140). -/
inductive DeadlineTimer
  | absent
  | running (remaining : Nat)
  | paused (remaining : Nat)
  deriving DecidableEq, Repr

/-- The Travel Monitor's supervision record of a live claim (R121). The stall timer holds its elapsed ms while it runs. -/
structure Supervision where
  members : List SupMember
  take : TakeWindow
  stall : Option Nat
  stopWindow : StopWindow
  deadline : DeadlineTimer
  deriving DecidableEq, Repr

/-- One claim record (R30), with its wait-limit timer in elapsed ms (R73) and its supervision record (R121). Member
positions are listed by set number; an empty list is an absent field. -/
structure ClaimRec where
  number : Nat
  owner : Link
  cls : ClaimClass
  kind : ClaimKind
  mover : Mover
  cueTag : Option Nat
  target : Option Nat
  memberTargets : List (Nat × Int)
  requestedSpeed : Option Nat
  grantedSpeed : Option Nat
  reserves : Option (Nat × Nat)
  starts : List (Nat × Int)
  span : Option Region
  state : ClaimState
  reasons : Reasons
  taken : Bool
  keep : Bool
  waitAllowed : Bool
  waitLimit : Option Nat
  deadline : Option Nat
  late : Bool
  group : Option Nat
  cause : Option FaultCause
  waitTimer : Option Nat
  sup : Option Supervision
  deriving DecidableEq, Repr

/-- A keep-out record in use (R55). -/
structure Keepout where
  region : Region
  tag : Option Nat
  deriving DecidableEq, Repr

/-! ## Group Table -/

/-- The state of a group (R78). -/
inductive GroupState
  | forming | ready | granted
  deriving DecidableEq, Repr

/-- A group record in use (R78); the timer holds elapsed ms. -/
structure GroupRec where
  owner : Link
  cls : ClaimClass
  sync : Bool
  expected : Nat
  members : List Nat
  waitLimit : Option Nat
  state : GroupState
  timer : Option Nat
  deriving DecidableEq, Repr

/-! ## Fly bus controllers -/

/-- The command of a grant frame (R102). -/
inductive BusCommand
  | go | stop | stay | halt | identify | test
  deriving DecidableEq, Repr

/-- The content of a grant frame: command, target and speed cap (R98, R102). -/
structure Content where
  command : BusCommand
  target : Int
  cap : Nat
  deriving DecidableEq, Repr

/-- The kinds of miss (R97). -/
inductive MissKind
  | noAnswer | incomplete | badCharacter | badCheck | wrongAddress | wrongForm
  deriving DecidableEq, Repr

/-- The last outcome of a station's polls (R98). -/
inductive PollOutcome
  | valid
  | miss (k : MissKind)
  deriving DecidableEq, Repr

/-- One station record (R98). -/
structure Station where
  set : Option Nat
  toggle : Bool
  lastContent : Option Content
  missCount : Nat
  fresh : Bool
  lastOutcome : Option PollOutcome
  identity : Option (Nat × Word32)
  deriving DecidableEq, Repr

/-- A station record after cold reset (R98). -/
def Station.reset : Station :=
  { set := none, toggle := false, lastContent := none, missCount := 0, fresh := false, lastOutcome := none, identity := none }

/-- The state of a segment (R99). -/
inductive SegState
  | idle | polling | broken | loop
  deriving DecidableEq, Repr

/-- The round in progress: the two poll lists formed at its start and what is left of each; the idle part has not begun
while `idleLeft` is none; `gone` lists the stations that stopped being configured during the round (R100, R101). -/
structure Round where
  active : List Nat
  activeLeft : List Nat
  idle : List Nat
  idleLeft : Option (List Nat)
  gone : List Nat
  deriving DecidableEq, Repr

/-- The poll in progress (R96): the station, its set at the build, the content and toggle sent, whether it belongs to the
idle part, whether its station has since stopped being configured (R98), and the characters sent on the line. -/
structure Poll where
  address : Nat
  set : Nat
  content : Content
  toggle : Bool
  idlePart : Bool
  orphaned : Bool
  sent : List LineChar
  deriving DecidableEq, Repr

/-- A loop test in progress: the addresses whose frames have not been compared, and the counts so far (R114). -/
structure LoopRun where
  left : List Nat
  passed : Nat
  failed : Nat
  lowestFailed : Option Nat
  deriving DecidableEq, Repr

/-- The loop result (R115). -/
structure LoopResult where
  passed : Nat
  failed : Nat
  lowestFailed : Option Nat
  deriving DecidableEq, Repr

/-- The outcome class of a poll (R105, R187). -/
inductive OutcomeClass
  | healthy | miss | overload | slack | overspeed | limit | drive
  deriving DecidableEq, Repr

/-- An outcome class on its way to the Attention Unit, with the raw code of an unknown status (R105). -/
structure OutcomeNote where
  set : Nat
  cls : OutcomeClass
  raw : Option Byte
  deriving DecidableEq, Repr

/-- An ordinary report on its way to the Set Registry (R107). -/
structure SetReportNote where
  set : Nat
  report : Report
  deriving DecidableEq, Repr

/-- An IDENT report on its way to the Set Registry (R106). -/
structure IdentNote where
  set : Nat
  commissioned : Nat
  deriving DecidableEq, Repr

/-- A poll outcome on its way to the Travel Monitor (R122): a valid report with its toggle echo, or a miss of a named kind;
the toggle and the content are those of the frame sent in the poll. -/
structure TravelNote where
  set : Nat
  address : Nat
  report : Option Report
  miss : Option MissKind
  echo : Bool
  toggle : Bool
  content : Content
  deriving DecidableEq, Repr

/-- A fresh-flag notice on its way to the Travel Monitor (R108, R124): the set, its station, and the flag as the controller held it
until this clearing. -/
structure FreshNotice where
  set : Nat
  address : Nat
  held : Bool
  deriving DecidableEq, Repr

/-- One fly bus controller: its records and the hand-offs it has made that no block has taken yet, oldest first. -/
structure Bus where
  state : SegState
  stations : Vector Station 64
  idlePointer : Nat
  idleSlice : Nat
  round : Option Round
  poll : Option Poll
  loop : Option LoopRun
  loopResult : Option LoopResult
  outcomes : List OutcomeNote
  setReports : List SetReportNote
  identReports : List IdentNote
  tmOutcomes : List TravelNote
  freshNotices : List FreshNotice
  deriving DecidableEq, Repr

/-- A fly bus controller after cold reset (R120). -/
def Bus.reset : Bus :=
  { state := .idle, stations := Vector.replicate 64 Station.reset, idlePointer := 0, idleSlice := 8, round := none,
    poll := none, loop := none, loopResult := none, outcomes := [], setReports := [], identReports := [],
    tmOutcomes := [], freshNotices := [] }

/-! ## Stop Controller -/

/-- The stop state (R153). -/
inductive StopState
  | run | stopped | latched
  deriving DecidableEq, Repr

/-- The Stop Controller's record (R153): a channel is true while ACTIVE; the discrepancy timer holds elapsed ms. -/
structure StopRec where
  state : StopState
  holdAll : Bool
  channelA : Bool
  channelB : Bool
  discrepancy : Option Nat
  mark : Bool
  deriving DecidableEq, Repr

/-! ## Desk links -/

/-- The role of a link (R166). -/
inductive Role
  | full | hold | lookup | off
  deriving DecidableEq, Repr

/-- A good frame held by a link: its kind and its payload (R168). -/
structure Frame where
  kind : Byte
  payload : List Byte
  deriving DecidableEq, Repr

/-- A request layer (R168). -/
inductive Layer
  | free
  | filling
  | posted (r : Frame)
  deriving DecidableEq, Repr

/-- The names of a link's two layers. -/
inductive LayerName
  | l0 | l1
  deriving DecidableEq, Repr

/-- Where a frame being received will go: a layer, nowhere for want of a FREE layer (R169), or the priority slot (R171). -/
inductive Destination
  | layer (n : LayerName)
  | overrun
  | slot
  deriving DecidableEq, Repr

/-- The frame being received: its first byte and its destination. -/
structure Receiving where
  first : Byte
  dest : Destination
  deriving DecidableEq, Repr

/-- A priority request not yet taken, and whether it replaced another (R171). -/
structure SlotRequest where
  frame : Frame
  superseded : Bool
  deriving DecidableEq, Repr

/-- The result codes (R179), in the order of R192. -/
inductive Result
  | done | queued | nullMove | notPermitted | malformed | noSuch | setVacant | setDark | setBarred | engaged
  | bonded | locked | trim | speed | conflict | tableFull | notOwner | wrongState | groupMismatch | zeroTravel
  | stopped | holding | segmentBusy | busy | deskPresent
  deriving DecidableEq, Repr

/-- The attention summary of a response (R184): the latched sources in the order of R192, the two outputs (true for
asserted) and the sequence number. -/
structure Summary where
  latched : List Bool
  urgent : Bool
  routine : Bool
  sequence : Word16
  deriving DecidableEq, Repr

/-- A response (R179): the kind of the request it answers, the tag echo, the result, the superseded indication, the
attention summary and the payload. -/
structure Response where
  kind : Byte
  tag : Word16
  result : Result
  superseded : Bool
  summary : Summary
  payload : List Byte
  deriving DecidableEq, Repr

/-- The frame being sent: whether it is the priority response, and its bytes (R172, R192). -/
structure Sending where
  priority : Bool
  bytes : List Byte
  deriving DecidableEq, Repr

/-- The presence state of a link (R174). -/
inductive Presence
  | absent | present | lost
  deriving DecidableEq, Repr

/-- A running presence timer: elapsed ms and the window it started with (R174). -/
structure PresenceTimer where
  elapsed : Nat
  window : Nat
  deriving DecidableEq, Repr

/-- One desk link. -/
structure LinkRec where
  role : Role
  layer0 : Layer
  layer1 : Layer
  posted : List LayerName
  receiving : Option Receiving
  slot : Option SlotRequest
  priorityResponse : Option Response
  queue : List Response
  sending : Option Sending
  presence : Presence
  presenceTimer : Option PresenceTimer
  window : Nat
  deriving DecidableEq, Repr

/-- A link after cold reset, with the role read from its straps (R166, R180). -/
def LinkRec.reset (role : Role) : LinkRec :=
  { role := role, layer0 := .free, layer1 := .free, posted := [], receiving := none, slot := none, priorityResponse := none,
    queue := [], sending := none, presence := .absent, presenceTimer := none, window := 300 }

/-! ## Attention Unit -/

/-- The 20 attention sources (R181), in the order of R192. -/
inductive Source
  | stop | discrepancy | holdAll | break0 | break1 | deskLost0 | deskLost1 | deskLost2 | overrun0 | overrun1 | overrun2
  | claimFault | setBarred | late | waitExpired | waitCancelled | tableNearFull | loopDone | rollcallDone | digestChanged
  deriving DecidableEq, Repr

/-- The routing of a source (R182). -/
inductive Routing
  | urgent | routine
  deriving DecidableEq, Repr

/-- The summary mode (R188). -/
inductive SummaryMode
  | latest | accumulated
  deriving DecidableEq, Repr

/-- A set of fault classes, MISS to DRIVE (R187). -/
structure FaultClasses where
  miss : Bool
  overload : Bool
  slack : Bool
  overspeed : Bool
  limit : Bool
  drive : Bool
  deriving DecidableEq, Repr

/-- The empty set of fault classes. -/
def FaultClasses.empty : FaultClasses :=
  { miss := false, overload := false, slack := false, overspeed := false, limit := false, drive := false }

/-- The fault summary of one set (R187). -/
structure FaultSummary where
  latest : Option OutcomeClass
  classes : FaultClasses
  rawCode : Option Byte
  deriving DecidableEq, Repr

/-- A fault summary after cold reset (R187). -/
def FaultSummary.reset : FaultSummary := { latest := none, classes := FaultClasses.empty, rawCode := none }

/-- The Attention Unit; the three tables by source are in the order of R192. -/
structure AttentionRec where
  counts : Vector Nat 20
  sequence : Word16
  routing : Vector Routing 20
  enabled : Vector Bool 20
  mode : SummaryMode
  faults : Vector FaultSummary 128
  deriving DecidableEq, Repr

/-- The default routing of each source, in the order of R192 (R178, R182). -/
def defaultRouting : Vector Routing 20 :=
  #v[.urgent, .urgent, .routine, .urgent, .urgent, .urgent, .urgent, .urgent, .routine, .routine,
     .routine, .urgent, .urgent, .routine, .routine, .routine, .routine, .routine, .routine, .routine]

/-- The Attention Unit after cold reset (R190). -/
def AttentionRec.reset : AttentionRec :=
  { counts := Vector.replicate 20 0, sequence := 0, routing := defaultRouting, enabled := Vector.replicate 20 true,
    mode := .latest, faults := Vector.replicate 128 FaultSummary.reset }

/-! ## The part -/

/-- The whole part: the records of its blocks, and the commands waiting for it, first in first out. -/
structure State where
  sets : Vector SetRec 128
  bonds : Vector (Option BondRec) 16
  driftTolerance : Nat
  digest : Word32
  claims : List ClaimRec
  keepouts : Vector (Option Keepout) 16
  clearance : Nat
  nearFull : Nat
  pointer : Link
  served : Nat
  weights : PerLink Nat
  groups : Vector (Option GroupRec) 24
  buses : PerSegment Bus
  stop : StopRec
  links : PerLink LinkRec
  attention : AttentionRec
  pending : List Instr
  deriving DecidableEq, Repr

/-- Reasons for which the part stops with a fault: none. The manual gives every command an effect, so no meaning answers
with a fault (INVENTORY.md, Faults). -/
inductive Fault
  deriving DecidableEq, Repr

/-- Reasons for which a command has no meaning in this model. -/
inductive Refusal
  /-- Raised only by an arm of Machine/Dispatch.lean whose command has no meaning yet; no arm raises it. Safe: the model
  stops where the part goes on. -/
  | notModelled (mnemonic : String)
  deriving DecidableEq, Repr

/-- The role that two straps give (R166). -/
def Straps.role (p : Straps) : Role :=
  match p.role1, p.role0 with
  | true, true => .full
  | true, false => .hold
  | false, true => .lookup
  | false, false => .off

/-- The stop state after cold reset: LATCHED where both channels are inactive, STOPPED otherwise (R163). -/
def resetStopState (activeA activeB : Bool) : StopState := if activeA || activeB then .stopped else .latched

/-- The Stop Controller after cold reset, from the channels as the pins stand (R153, R163). -/
def StopRec.reset (activeA activeB : Bool) : StopRec :=
  { state := resetStopState activeA activeB, holdAll := false, channelA := activeA, channelB := activeB,
    discrepancy := if activeA = activeB then none else some 0, mark := false }

/-- The digest over the empty tables: 128 set images of 24 zero bytes and 16 bond images of 6 (R26, R195). -/
def emptyDigest : Word32 := crc32 (List.replicate 3168 0#8)

/-- The part after a cold reset that finds the pins `p` (R28, R62, R66, R94, R120, R145, R163, R180, R190), with the
commands `waiting` still in the queue. -/
def State.coldReset (p : ResetPins) (waiting : List Instr) : State :=
  { sets := Vector.replicate 128 SetRec.vacant
    bonds := Vector.replicate 16 none
    driftTolerance := 20
    digest := emptyDigest
    claims := []
    keepouts := Vector.replicate 16 none
    clearance := 150
    nearFull := 144
    pointer := .dl0
    served := 0
    weights := { dl0 := 4, dl1 := 4, dl2 := 4 }
    groups := Vector.replicate 24 none
    buses := { fb0 := Bus.reset, fb1 := Bus.reset }
    stop := StopRec.reset p.estopALow p.estopBLow
    links :=
      { dl0 := LinkRec.reset (Straps.role p.straps0), dl1 := LinkRec.reset (Straps.role p.straps1),
        dl2 := LinkRec.reset (Straps.role p.straps2) }
    attention := AttentionRec.reset
    pending := waiting }

/-- The pins State.reset takes: every strap high, so every link FULL, and both channels high, so the stop state LATCHED.
DESIGN CHOICE (log entry 7): the manual leaves them to the installation. -/
def State.resetPins : ResetPins :=
  { straps0 := ⟨true, true⟩, straps1 := ⟨true, true⟩, straps2 := ⟨true, true⟩, estopALow := false, estopBLow := false }

/-- The part right after cold reset, with no command waiting. -/
def State.reset : State := State.coldReset State.resetPins []

end Sys2Proof.Machine
end

