-- ==== Sys2Proof/Machine/Flags.lean ====
section
/-! DEFINITION. The attention latches, the two attention outputs and the attention summary (R181 to R184), and the fault classes of a summary (R187, R188). -/

namespace Sys2Proof.Machine

/-- The code of a source: its position in the list of R192. -/
def Source.code : Source → Nat
  | .stop => 0
  | .discrepancy => 1
  | .holdAll => 2
  | .break0 => 3
  | .break1 => 4
  | .deskLost0 => 5
  | .deskLost1 => 6
  | .deskLost2 => 7
  | .overrun0 => 8
  | .overrun1 => 9
  | .overrun2 => 10
  | .claimFault => 11
  | .setBarred => 12
  | .late => 13
  | .waitExpired => 14
  | .waitCancelled => 15
  | .tableNearFull => 16
  | .loopDone => 17
  | .rollcallDone => 18
  | .digestChanged => 19

/-- The break source of a segment (R110). -/
def Source.ofBreak : Segment → Source
  | .fb0 => .break0
  | .fb1 => .break1

/-- The loss source of a link (R175). -/
def Source.ofLoss : Link → Source
  | .dl0 => .deskLost0
  | .dl1 => .deskLost1
  | .dl2 => .deskLost2

/-- The overrun source of a link (R169). -/
def Source.ofOverrun : Link → Source
  | .dl0 => .overrun0
  | .dl1 => .overrun1
  | .dl2 => .overrun2

/-- The source codes, ascending. -/
def sourceCodes : List Nat := List.range 20

/-- The latch count of the source of code `n` (R181). -/
def AttentionRec.count (a : AttentionRec) (n : Nat) : Nat := (a.counts[n]?).getD 0

/-- A source is latched while its count is 1 or more (R181). -/
def AttentionRec.latched (a : AttentionRec) (n : Nat) : Bool := decide (1 ≤ a.count n)

/-- `k` latching events of one source in one step: its count rises by `k`, up to 255, and the sequence number by `k`,
wrapping (R181). -/
def AttentionRec.latchTimes (a : AttentionRec) (src : Source) (k : Nat) : AttentionRec :=
  { a with
    counts := a.counts.setIfInBounds src.code (min 255 (a.count src.code + k))
    sequence := a.sequence + BitVec.ofNat 16 k }

/-- `k` latching events of `src`, taken in the step that causes them (R181). -/
def latchTimes (src : Source) (k : Nat) (s : State) : State := { s with attention := s.attention.latchTimes src k }

/-- One latching event of `src` (R181). -/
def latch (src : Source) (s : State) : State := latchTimes src 1 s

/-- One latching event where `b` holds. -/
def latchIf (b : Bool) (src : Source) (s : State) : State := if b then latch src s else s

/-- Whether source `n` asserts the output of routing `r`: latched, enabled and so routed (R183). -/
def AttentionRec.asserts (a : AttentionRec) (r : Routing) (n : Nat) : Bool :=
  a.latched n && (a.enabled[n]?).getD false && decide (a.routing[n]? = some r)

/-- Whether an attention output is asserted (R183). It is a view of the latches, so it follows each of their changes. -/
def AttentionRec.output (a : AttentionRec) (r : Routing) : Bool := sourceCodes.any (a.asserts r)

/-- The attention summary as it stands (R184). -/
def AttentionRec.summary (a : AttentionRec) : Summary :=
  { latched := sourceCodes.map a.latched, urgent := a.output .urgent, routine := a.output .routine, sequence := a.sequence }

/-- A set of classes with `c` added; healthy is no fault class (R187). -/
def FaultClasses.add (k : FaultClasses) : OutcomeClass → FaultClasses
  | .healthy => k
  | .miss => { k with miss := true }
  | .overload => { k with overload := true }
  | .slack => { k with slack := true }
  | .overspeed => { k with overspeed := true }
  | .limit => { k with limit := true }
  | .drive => { k with drive := true }

/-- The fault summary of set `n` (R187). -/
def State.faultSummary (s : State) (n : Nat) : FaultSummary := (Tab.get? s.attention.faults n).getD FaultSummary.reset

/-- The fault summary of set `n` replaced. -/
def State.putFaultSummary (s : State) (n : Nat) (x : FaultSummary) : State :=
  { s with attention := { s.attention with faults := Tab.put s.attention.faults n x } }

/-- A summary after a poll's outcome class (R187). -/
def FaultSummary.take (x : FaultSummary) (cls : OutcomeClass) (raw : Option Byte) : FaultSummary :=
  { latest := some cls, classes := x.classes.add cls, rawCode := raw.or x.rawCode }

/-- A summary after CLEAR FAULTS: the latest outcome is kept (R189). -/
def FaultSummary.cleared (x : FaultSummary) : FaultSummary := { x with classes := FaultClasses.empty, rawCode := none }

/-- The fault classes LOOKUP SET shows, by the summary mode (R188). -/
def FaultSummary.shown (x : FaultSummary) : SummaryMode → FaultClasses
  | .latest => (x.latest.map FaultClasses.empty.add).getD FaultClasses.empty
  | .accumulated => x.classes

end Sys2Proof.Machine
end

