-- ==== Sys2Proof/Machine/Geometry.lean ====
section
/-! DEFINITION. Regions, movers and the region checker: R1 to R4 and R31 to R34. -/

namespace Sys2Proof.Machine

/-- Two regions conflict when their depth intervals overlap and their height intervals overlap; touching bounds conflict
(00_scope, Regions). -/
def Region.conflicts (a b : Region) : Bool :=
  decide (a.depthLo ≤ b.depthHi) && decide (b.depthLo ≤ a.depthHi) &&
    decide (a.heightLo ≤ b.heightHi) && decide (b.heightLo ≤ a.heightHi)

/-- `a` lies within `b`, bounds included (R33, R135). -/
def Region.within (a b : Region) : Bool :=
  decide (b.depthLo ≤ a.depthLo) && decide (a.depthHi ≤ b.depthHi) &&
    decide (b.heightLo ≤ a.heightLo) && decide (a.heightHi ≤ b.heightHi)

/-- The smallest region that contains both. -/
def Region.hull (a b : Region) : Region :=
  { depthLo := min a.depthLo b.depthLo, depthHi := max a.depthHi b.depthHi,
    heightLo := min a.heightLo b.heightLo, heightHi := max a.heightHi b.heightHi }

/-- The smallest region that contains all of a list, none of an empty list (R4, R31). -/
def Region.hullAll : List Region → Option Region
  | [] => none
  | r :: rs => some (rs.foldl Region.hull r)

/-- `new` is smaller than `old` in either range: its depth range or its height range is shorter (R19, R49; DEDUCED, log
entry 11). -/
def Region.smaller (new old : Region) : Bool :=
  decide (new.depthHi - new.depthLo < old.depthHi - old.depthLo) ||
    decide (new.heightHi - new.heightLo < old.heightHi - old.heightLo)

/-- A region with its depth bounds kept and its height bounds given. -/
def Region.withHeight (r : Region) (lo hi : Int) : Region := { r with heightLo := lo, heightHi := hi }

/-- The resting region of a configured set at position `p` under clearance `clr` (R1). -/
def Setup.restingRegion (u : Setup) (clr : Nat) (p : Int) : Region :=
  { depthLo := (u.rig.depth : Int) - u.hang.fore - u.hang.sway
    depthHi := (u.rig.depth : Int) + u.hang.aft + u.hang.sway
    heightLo := p - u.hang.drop - clr
    heightHi := p + u.hang.top + clr }

/-- The column of a configured set: from its lower trim to its upper trim with the full margin (R3). -/
def Setup.column (u : Setup) (clr : Nat) : Region :=
  (u.restingRegion clr 0).withHeight ((u.rig.lower : Int) - u.hang.drop - clr) ((u.rig.upper : Int) + u.hang.top + clr)

/-- The ceiling of a division. -/
def ceilDiv (a b : Nat) : Nat := (a + b - 1) / b

/-- The stop allowance of a set at speed `v` (R2). -/
def Setup.allowance (u : Setup) (v : Nat) : Nat :=
  match u.rig.stopMode with
  | .auto => ceilDiv (v * u.rig.stopConstant) 2000
  | .fixed => u.rig.fixedAllowance.getD 0

/-- The region a member sweeps between `a` and `b` at speed `v` (R31). -/
def Setup.sweptRegion (u : Setup) (clr v : Nat) (a b : Int) : Region :=
  (u.restingRegion clr 0).withHeight (min a b - u.hang.drop - clr - u.allowance v) (max a b + u.hang.top + clr + u.allowance v)

/-- A position lies within the trims widened by the arrival tolerance at each end (R6, R8, R12). -/
def Setup.inRange (u : Setup) (p : Int) : Bool :=
  decide ((u.rig.lower : Int) - u.rig.arrivalTol ≤ p) && decide (p ≤ (u.rig.upper : Int) + u.rig.arrivalTol)

/-- A position lies within the trims, bounds included (R35, R46). -/
def Setup.inTrims (u : Setup) (p : Int) : Bool :=
  decide ((u.rig.lower : Int) ≤ p) && decide (p ≤ (u.rig.upper : Int))

/-- A load lies within the load window, bounds included (R10, R137). -/
def Setup.loadOk (u : Setup) (w : Nat) : Bool := decide (u.hang.loadMin ≤ w) && decide (w ≤ u.hang.loadMax)

/-! ## Set records and movers -/

/-- The record of set `n`; a number outside 1 to 128 reads as a VACANT set. -/
def State.setRec (s : State) (n : Nat) : SetRec := (Tab.get? s.sets n).getD SetRec.vacant

/-- The record of set `n` changed by `f`. -/
def State.updSet (s : State) (n : Nat) (f : SetRec → SetRec) : State :=
  { s with sets := Tab.put s.sets n (f (s.setRec n)) }

/-- The records of several sets changed by `f`. -/
def State.updSets (s : State) (ns : List Nat) (f : Nat → SetRec → SetRec) : State :=
  ns.foldl (fun s n => s.updSet n (f n)) s

/-- Bond `b` where it is in use. -/
def State.bond? (s : State) (b : Nat) : Option BondRec := Tab.record? s.bonds b

/-- The mover set `n` belongs to (R4). -/
def State.moverOf (s : State) (n : Nat) : Mover :=
  match (s.setRec n).bond with
  | some b => .bond b
  | none => .set n

/-- The sets of a mover, ascending (R15). -/
def State.members (s : State) : Mover → List Nat
  | .set n => [n]
  | .bond b => ((s.bond? b).map BondRec.members).getD []

/-- The lead of a mover: its lowest-numbered set. -/
def State.lead (s : State) (m : Mover) : Option Nat := (s.members m).head?

/-- The claim on a mover, in any state (R29: a mover has at most one claim). -/
def State.claimOf (s : State) (m : Mover) : Option ClaimRec := s.claims.find? fun c => decide (c.mover = m)

/-- Claim `n` where it is in use. -/
def State.claim? (s : State) (n : Nat) : Option ClaimRec := s.claims.find? fun c => decide (c.number = n)

/-- A live claim is a claim in any state other than WAITING (00_scope, Terms). -/
def ClaimRec.live (c : ClaimRec) : Bool := decide (c.state ≠ .waiting)

/-- The live claim on a mover. -/
def State.liveClaim (s : State) (m : Mover) : Option ClaimRec := (s.claimOf m).filter ClaimRec.live

/-- The set's mover has a live claim (R107, R109). -/
def State.isLive (s : State) (n : Nat) : Bool := (s.liveClaim (s.moverOf n)).isSome

/-- A mover is untrusted while any of its sets is DARK or BARRED, or its claim is FAULTED (R4). -/
def State.untrusted (s : State) (m : Mover) : Bool :=
  (s.members m).any (fun n => decide ((s.setRec n).state = .dark) || decide ((s.setRec n).state = .barred)) ||
    (s.claimOf m).any (fun c => decide (c.state = .faulted))

/-- Every set of the mover is RESTING. -/
def State.allResting (s : State) (m : Mover) : Bool := (s.members m).all fun n => decide ((s.setRec n).state = .resting)

/-- The rest position of a set; a free value where the record holds none (log entry 9). -/
def State.restOf (s : State) (n : Nat) : Int := (s.setRec n).restPosition.getD (Config.absentPosition n)

/-- The last reported position of a set; a free value where none is held (log entry 9). -/
def State.lastPosition (s : State) (n : Nat) : Int :=
  ((s.setRec n).lastReport.map Report.position).getD (Config.absentPosition n)

/-- The smallest region containing one region for each configured set of a list (R4). -/
def State.hullOver (s : State) (ns : List Nat) (f : Nat → Setup → Region) : Option Region :=
  Region.hullAll (ns.filterMap fun n => (s.setRec n).setup.map (f n))

/-- The resting region of a list of sets, each at the position `p` gives it (R1, R4). -/
def State.restingAt (s : State) (ns : List Nat) (p : Nat → Int) : Option Region :=
  s.hullOver ns fun n u => u.restingRegion s.clearance (p n)

/-- The resting region of a mover at its rest positions (R4). -/
def State.restingRegion (s : State) (m : Mover) : Option Region := s.restingAt (s.members m) s.restOf

/-- The column of a mover (R3, R4). -/
def State.column (s : State) (m : Mover) : Option Region :=
  s.hullOver (s.members m) fun _ u => u.column s.clearance

/-- The committed region of a mover (R4, R32). -/
def State.committed (s : State) (m : Mover) : Option Region :=
  match s.liveClaim m with
  | some c => c.span
  | none => if s.allResting m then s.restingRegion m else none

/-- The mover that a set number stands for in a list of movers: an unbonded configured set, or the bond it leads. -/
def State.moverAt (s : State) (n : Nat) : Option Mover :=
  match (s.setRec n).setup, (s.setRec n).bond with
  | none, _ => none
  | some _, none => some (.set n)
  | some _, some b => if s.lead (.bond b) = some n then some (.bond b) else none

/-- Every mover with configured sets, in ascending order of its lowest set number (R34). -/
def State.movers (s : State) : List Mover := (Tab.numbers 128).filterMap s.moverAt

/-! ## The region checker -/

/-- Where a candidate meets an obstacle (R34). -/
inductive Basis
  | region | column
  deriving DecidableEq, Repr

/-- What a candidate meets (R34). -/
inductive ObstacleKind
  | keepout | set | bond
  deriving DecidableEq, Repr

/-- An obstacle as a refusal names it (R34). -/
structure Obstacle where
  kind : ObstacleKind
  number : Nat
  basis : Basis
  deriving DecidableEq, Repr

/-- The obstacle a mover makes, met on a basis (R34). -/
def moverAsObstacle (m : Mover) (b : Basis) : Obstacle :=
  match m with
  | .set n => { kind := .set, number := n, basis := b }
  | .bond n => { kind := .bond, number := n, basis := b }

/-- Whether a candidate meets the committed region of a mover. -/
def State.meetsCommitted (s : State) (r : Region) (m : Mover) : Bool := (s.committed m).any r.conflicts

/-- Whether a candidate meets the column of an untrusted mover. -/
def State.meetsColumnOf (s : State) (r : Region) (m : Mover) : Bool := s.untrusted m && (s.column m).any r.conflicts

/-- The obstacle that a mover is to a candidate, with basis REGION before COLUMN (R34). -/
def State.moverObstacle (s : State) (r : Region) (m : Mover) : Option Obstacle :=
  if s.meetsCommitted r m then some (moverAsObstacle m .region)
  else if s.meetsColumnOf r m then some (moverAsObstacle m .column)
  else none

/-- The keep-out that a candidate meets, if it is in use and meets it (R33). -/
def State.keepoutObstacle (s : State) (r : Region) (n : Nat) : Option Obstacle :=
  if (Tab.record? s.keepouts n).any (fun k => r.conflicts k.region) then
    some { kind := .keepout, number := n, basis := .region }
  else none

/-- The first obstacle of a candidate: keep-outs in ascending number, then movers in ascending order of their lowest set
number, the movers in `own` left out (R33, R34). -/
def State.obstacle (s : State) (own : List Mover) (r : Region) : Option Obstacle :=
  ((Tab.numbers 16).findSome? (s.keepoutObstacle r)).or
    ((s.movers.filter fun m => decide (m ∉ own)).findSome? (s.moverObstacle r))

/-- A candidate fits when it meets nothing (R33). -/
def State.fits (s : State) (own : List Mover) (r : Region) : Bool := (s.obstacle own r).isNone

/-- The movers, other than `own`, whose column a region meets while they are untrusted (R38, R142). -/
def State.columnMet (s : State) (own : Mover) (r : Region) : Option Mover :=
  s.movers.find? fun m => decide (m ≠ own) && s.meetsColumnOf r m

/-- Whether a claim's span meets the column of an untrusted mover other than its own (R38, R151). -/
def State.spanMeetsColumn (s : State) (c : ClaimRec) : Bool := c.span.any fun r => (s.columnMet c.mover r).isSome

end Sys2Proof.Machine
end

