-- ==== Sys2Proof/Machine/Holds.lean ====
section
/-! DEFINITION. Supervision timers at a change of claim state, hold reasons, leaving HELD, and the holds that pass between the members of a group (R36 to R38, R89 to R92, R124 to R132, R142 to R152). -/

namespace Sys2Proof.Machine

/-! ## The supervision record at changes of state -/

/-- Every member's fresh report emptied (R124). -/
def Supervision.emptyFresh (x : Supervision) : Supervision :=
  { x with members := x.members.map fun m => { m with fresh := none } }

/-- The take window started: counts 0, marks clear, fresh reports emptied (R124, R125). -/
def Supervision.startTake (x : Supervision) : Supervision :=
  { x with
    members := x.members.map fun m => { m with fresh := none, takeCount := 0, takenMark := false }
    take := .running }

/-- The stop window started from 0, the fresh reports emptied (R124, R132). -/
def Supervision.startStop (x : Supervision) : Supervision := { x.emptyFresh with stopWindow := .running 0 }

/-- A running take window paused (R128). -/
def TakeWindow.pause : TakeWindow → TakeWindow
  | .running => .paused
  | .paused => .paused
  | .stopped => .stopped

/-- Entry to HELD: the take window of an untaken claim is paused, the stall timer stopped with its elapsed time
discarded, the stop window started (R37). -/
def Supervision.onHold (x : Supervision) : Supervision := { x.startStop with take := x.take.pause, stall := none }

/-- The remaining distance of a member: its target less its last position, without sign (R130). -/
def SupMember.remaining (m : SupMember) (targets : List (Nat × Int)) : Nat :=
  ((((targets.find? fun p => decide (p.1 = m.set)).map Prod.snd).getD (Config.absentPosition m.set)) - m.lastPosition).natAbs

/-- Every member's stall reference set to its remaining distance (R130). -/
def Supervision.setRefs (x : Supervision) (targets : List (Nat × Int)) : Supervision :=
  { x with members := x.members.map fun m => { m with stallRef := some (m.remaining targets) } }

/-- Entry to MOVING: the take and stop windows stopped, the stall timer started from 0, the references set (R38, R126,
R128, R132). -/
def Supervision.onMoving (x : Supervision) (targets : List (Nat × Int)) : Supervision :=
  { x.setRefs targets with take := .stopped, stall := some 0, stopWindow := .stopped }

/-- Exit from HELD into GRANTED: a fresh take window, the stop window stopped (R38, R132). -/
def Supervision.onRegranted (x : Supervision) : Supervision := { x.startTake with stopWindow := .stopped }

/-- Entry to RETIRING: take window and stall timer stopped, deadline discarded, stop window started (R39, R140). -/
def Supervision.onRetiring (x : Supervision) : Supervision :=
  { x.startStop with take := .stopped, stall := none, deadline := .absent }

/-- Entry to FAULTED: every timer stopped (R144). -/
def Supervision.onFault (x : Supervision) : Supervision :=
  { x with take := .stopped, stall := none, stopWindow := .stopped, deadline := .absent }

/-- A running deadline paused with its time remaining (R41). -/
def DeadlineTimer.pause : DeadlineTimer → DeadlineTimer
  | .running r => .paused r
  | .paused r => .paused r
  | .absent => .absent

/-- A paused deadline resumed (R49, R140). -/
def DeadlineTimer.resume : DeadlineTimer → DeadlineTimer
  | .paused r => .running r
  | .running r => .running r
  | .absent => .absent

/-! ## Reasons -/

/-- No reason is present (R146). -/
def Reasons.isEmpty (r : Reasons) : Bool := decide (r = Reasons.empty)

/-- A reason other than GROUP is present (R90). -/
def Reasons.beyondGroup (r : Reasons) : Bool := decide ({ r with group := false } ≠ Reasons.empty)

/-- SEGMENT carried for a segment (R149). -/
def Reasons.segment (r : Reasons) : Segment → Bool
  | .fb0 => r.segment0
  | .fb1 => r.segment1

/-- SEGMENT set or cleared for a segment (R149). -/
def Reasons.putSegment (r : Reasons) (f : Segment) (b : Bool) : Reasons :=
  match f with
  | .fb0 => { r with segment0 := b }
  | .fb1 => { r with segment1 := b }

/-- Reasons after OPERATOR is added. -/
def Reasons.addOperator (r : Reasons) : Reasons := { r with operator := true }
/-- Reasons after ALL is added. -/
def Reasons.addAll (r : Reasons) : Reasons := { r with all := true }
/-- Reasons after ESTOP is added. -/
def Reasons.addEstop (r : Reasons) : Reasons := { r with estop := true }
/-- Reasons after DESK_LOST is added. -/
def Reasons.addDeskLost (r : Reasons) : Reasons := { r with deskLost := true }
/-- Reasons after COLUMN is added. -/
def Reasons.addColumn (r : Reasons) : Reasons := { r with column := true }
/-- Reasons after GROUP is added. -/
def Reasons.addGroup (r : Reasons) : Reasons := { r with group := true }
/-- ESTOP replaced by OPERATOR where it is present (R147). -/
def Reasons.convertEstop (r : Reasons) : Reasons :=
  if r.estop then { r with estop := false, operator := true } else r
/-- DESK_LOST replaced by OPERATOR where it is present (R147). -/
def Reasons.convertDeskLost (r : Reasons) : Reasons :=
  if r.deskLost then { r with deskLost := false, operator := true } else r
/-- One segment of SEGMENT replaced by OPERATOR where it is in the list (R149). -/
def Reasons.convertSegment (r : Reasons) (f : Segment) : Reasons :=
  if r.segment f then (r.putSegment f false).addOperator else r

/-! ## Claims -/

/-- The claim table with `f` applied to every record. -/
def State.mapClaims (s : State) (f : ClaimRec → ClaimRec) : State := { s with claims := s.claims.map f }

/-- The claim table with `f` applied to claim `n`. -/
def State.updClaim (s : State) (n : Nat) (f : ClaimRec → ClaimRec) : State :=
  s.mapClaims fun c => if c.number = n then f c else c

/-- GRANTED or MOVING: the states in which a claim's stations receive GO (R102). -/
def ClaimRec.running (c : ClaimRec) : Bool := decide (c.state = .granted) || decide (c.state = .moving)

/-- GRANTED, MOVING or HELD: the states that receive a hold reason (R37). -/
def ClaimRec.holdable (c : ClaimRec) : Bool := c.running || decide (c.state = .held)

/-- A hold reason added to a claim (R37): a claim in GRANTED or MOVING enters HELD with it, a HELD claim takes it into its
set, and the other states skip it. -/
def ClaimRec.hold (add : Reasons → Reasons) (c : ClaimRec) : ClaimRec :=
  if c.running then
    { c with state := .held, reasons := add c.reasons, sup := c.sup.map Supervision.onHold }
  else if c.state = .held then { c with reasons := add c.reasons }
  else c

/-- A hold reason added to every claim that `p` selects (R37). -/
def State.holdWhere (s : State) (p : ClaimRec → Bool) (add : Reasons → Reasons) : State :=
  s.mapClaims fun c => if p c then c.hold add else c

/-- A member is stopping while it is FAULTED, or HELD with a reason other than GROUP (R90). -/
def ClaimRec.stopping (c : ClaimRec) : Bool :=
  decide (c.state = .faulted) || (decide (c.state = .held) && c.reasons.beyondGroup)

/-- Two different claims of one group. -/
def ClaimRec.partner (c d : ClaimRec) : Bool :=
  c.group.isSome && decide (d.group = c.group) && decide (d.number ≠ c.number)

/-- Another member of the claim's group is stopping (R90). -/
def State.partnerStopping (s : State) (c : ClaimRec) : Bool := s.claims.any fun d => c.partner d && d.stopping

/-- What becomes of a HELD claim whose set of reasons is empty (R38, R91): where its span meets the column of an untrusted
mover it takes COLUMN, where a partner is stopping it takes GROUP, and where neither holds it leaves HELD, into MOVING if
it was taken and into GRANTED otherwise. The tests read the records `s`. -/
def State.exitHeld (s : State) (c : ClaimRec) : ClaimRec :=
  if s.spanMeetsColumn c || s.partnerStopping c then
    { c with reasons := { c.reasons with column := s.spanMeetsColumn c, group := s.partnerStopping c } }
  else if c.taken then
    { c with state := .moving, sup := c.sup.map fun x => x.onMoving c.memberTargets }
  else { c with state := .granted, sup := c.sup.map Supervision.onRegranted }

/-- Every HELD claim whose set of reasons is empty tested for leaving HELD, all against the records as they stand before
any of them leaves (step 2 of R152; log entry 23). -/
def State.releaseEmptied (s : State) : State :=
  s.mapClaims fun c => if c.state = .held ∧ c.reasons.isEmpty then s.exitHeld c else c

/-- A member that carries GROUP loses it when no other member is stopping (R90). -/
def State.dropGroup (s : State) (c : ClaimRec) : ClaimRec :=
  if c.state = .held ∧ c.reasons.group ∧ ¬ s.partnerStopping c then
    { c with reasons := { c.reasons with group := false } }
  else c

/-- A member in GRANTED or MOVING takes GROUP while another member is stopping (R90). -/
def State.takeGroup (s : State) (c : ClaimRec) : ClaimRec :=
  if c.running && s.partnerStopping c then c.hold Reasons.addGroup else c

/-- The re-evaluation of the granted groups (R90): GROUP leaves the members with no stopping partner, the members whose
sets it emptied are tested under R38, and then GROUP joins the running members with a stopping partner. -/
def State.regroup (s : State) : State :=
  let s1 := s.mapClaims s.dropGroup
  let s2 := s1.releaseEmptied
  s2.mapClaims s2.takeGroup

/-- Steps 2 and 3 of R152: the claims whose sets were emptied are tested, and then the groups are re-evaluated. -/
def State.settle (s : State) : State := s.releaseEmptied.regroup

/-! ## COLUMN -/

/-- COLUMN added to every other claim in GRANTED or MOVING whose span conflicts with a column (R142, R143). -/
def State.raiseColumn (s : State) (m : Mover) : State :=
  match s.column m with
  | some col => s.holdWhere (fun c => c.running && decide (c.mover ≠ m) && c.span.any col.conflicts) Reasons.addColumn
  | none => s

/-- COLUMN removed from a HELD claim whose span meets no column (R151). -/
def State.dropColumn (s : State) (c : ClaimRec) : ClaimRec :=
  if c.state = .held ∧ c.reasons.column ∧ ¬ s.spanMeetsColumn c then
    { c with reasons := { c.reasons with column := false } }
  else c

/-- The re-evaluation of the COLUMN reasons (R151), taken in the order of R152. -/
def State.reevalColumns (s : State) : State := (s.mapClaims s.dropColumn).settle

end Sys2Proof.Machine
end

