-- ==== Sys2Proof/Machine/Ops.lean ====
section
/-! DEFINITION. The named operations over the records: the notices that follow a change of set state (R6), the station records (R98, R99), the rounds (R100), claims attached, engaged and ended (R7, R8, R43), and responses placed at a link (R170, R171, R179). -/

namespace Sys2Proof.Machine

/-! ## Notices of the Set Registry (R6) -/

/-- The sets in a given state. -/
def State.setsIn (s : State) (st : SetState) : List Nat :=
  (Tab.numbers 128).filter fun n => decide ((s.setRec n).state = st)

/-- How many sets entered BARRED between two states. -/
def newlyBarred (before after : State) : Nat :=
  ((after.setsIn .barred).filter fun n => decide ((before.setRec n).state ≠ .barred)).length

/-- The count of DARK sets fell to zero from one or more (R6). -/
def rollcallDone (before after : State) : Bool := !(before.setsIn .dark).isEmpty && (after.setsIn .dark).isEmpty

/-- The attention notices of a change of set states since `before` (R6): SET_BARRED for each entry to BARRED, and
ROLLCALL_DONE when the last DARK set has left DARK. -/
def setNotices (before s : State) : State :=
  latchIf (rollcallDone before s) .rollcallDone (latchTimes .setBarred (newlyBarred before s) s)

/-- A mover of the list became trusted where it was untrusted (R6). -/
def trustGained (before s : State) (ms : List Mover) : Bool := ms.any fun m => before.untrusted m && !s.untrusted m

/-- COLUMN raised for each mover of the list that became untrusted where it was trusted (R6, R142). -/
def raiseNewColumns (before : State) (ms : List Mover) (s : State) : State :=
  ms.foldl (fun t m => if !before.untrusted m && s.untrusted m then t.raiseColumn m else t) s

/-- The trust notices of a change since `before` to the movers `ms` (R6): a mover that became untrusted raises COLUMN
holds (R142); a mover that became trusted takes its column away, and COLUMN is re-evaluated (R151); then the groups are
re-evaluated (R90). The arbiter pass of a mover that became trusted is the caller's (R69). -/
def trustNotices (before : State) (ms : List Mover) (s : State) : State :=
  if trustGained before s ms then (raiseNewColumns before ms s).reevalColumns else (raiseNewColumns before ms s).regroup

/-- Attention and trust notices together, for a change of the sets of the movers `ms` (R6). -/
def stateNotices (before : State) (ms : List Mover) (s : State) : State := trustNotices before ms (setNotices before s)

/-- A set becomes BARRED with a cause and loses its rest position (R8, R10, R14). -/
def SetRec.bar (r : SetRec) (c : BarredCause) : SetRec :=
  { r with state := .barred, barredCause := some c, restPosition := none }

/-- A set becomes RESTING at a position (R8, R12). -/
def SetRec.rest (r : SetRec) (p : Int) : SetRec :=
  { r with state := .resting, restPosition := some p, barredCause := none }

/-! ## Fly bus controllers -/

/-- The controller of a segment. -/
def State.bus (s : State) (f : Segment) : Bus := s.buses.get f

/-- The controller of a segment replaced. -/
def State.putBus (s : State) (f : Segment) (b : Bus) : State := { s with buses := s.buses.put f b }

/-- The controller of a segment changed. -/
def State.updBus (s : State) (f : Segment) (g : Bus → Bus) : State := s.putBus f (g (s.bus f))

/-- The station record of an address; an address outside 1 to 64 reads as a station after reset. -/
def Bus.station (b : Bus) (a : Nat) : Station := (Tab.get? b.stations a).getD Station.reset

/-- The station record of an address replaced. -/
def Bus.putStation (b : Bus) (a : Nat) (x : Station) : Bus := { b with stations := Tab.put b.stations a x }

/-- The configured stations of a segment, in ascending address (R98). -/
def Bus.configured (b : Bus) : List Nat := (Tab.numbers 64).filter fun a => (b.station a).set.isSome

/-- Every station's miss count set to 0 and its fresh flag cleared (R112, R115, R119). -/
def Bus.clearFresh (b : Bus) : Bus :=
  { b with stations := b.stations.map fun x => { x with missCount := 0, fresh := false } }

/-- The mover of a station's set has a claim in GRANTED, MOVING, HELD or RETIRING, so the station stands in the active
list (R100). -/
def State.stationActive (s : State) (b : Bus) (a : Nat) : Bool :=
  (b.station a).set.any fun n =>
    (s.claimOf (s.moverOf n)).any fun c => c.holdable || decide (c.state = .retiring)

/-- The two poll lists formed from the records as they stand (R100). -/
def State.formRound (s : State) (b : Bus) : Round :=
  { active := b.configured.filter (s.stationActive b)
    activeLeft := b.configured.filter (s.stationActive b)
    idle := b.configured.filter fun a => !s.stationActive b a
    idleLeft := none
    gone := [] }

/-- A segment enters POLLING and its controller begins a round (R99, R112, R115). -/
def State.enterPolling (s : State) (f : Segment) : State :=
  s.updBus f fun b => { b with state := .polling, poll := none, round := some (s.formRound b) }

/-- A segment enters IDLE: the poll in progress is abandoned (R99). -/
def State.enterIdle (s : State) (f : Segment) : State :=
  s.updBus f fun b => { b with state := .idle, poll := none, round := none }

/-- A station becomes configured: the polling notice of R6 at its controller (R98, R99). -/
def State.stationJoins (s : State) (f : Segment) (a n : Nat) : State :=
  let s1 := s.updBus f fun b =>
    b.putStation a { (b.station a) with
      set := some n, lastContent := none, lastOutcome := none, identity := none, missCount := 0, fresh := false }
  if (s1.bus f).state = .idle then s1.enterPolling f else s1

/-- A station that stops being configured during a round is passed over for the rest of it (R100). -/
def Round.leave (r : Round) (a : Nat) : Round := { r with gone := a :: r.gone }

/-- A poll in progress for a station that stops being configured is discarded when it is judged (R98). -/
def Poll.orphan (p : Poll) (a : Nat) : Poll := if p.address = a then { p with orphaned := true } else p

/-- A station stops being configured (R98); a POLLING segment that loses its last one enters IDLE (R99). -/
def State.stationLeaves (s : State) (f : Segment) (a : Nat) : State :=
  let s1 := s.updBus f fun b =>
    { b.putStation a { (b.station a) with
        set := none, lastContent := none, lastOutcome := none, identity := none, missCount := 0, fresh := false } with
      poll := b.poll.map fun p => p.orphan a
      round := b.round.map fun r => r.leave a }
  if (s1.bus f).state = .polling ∧ (s1.bus f).configured = [] then s1.enterIdle f else s1

/-- Every member set of a mover is on a segment whose state `p` selects. -/
def State.segmentsAll (s : State) (m : Mover) (p : SegState → Bool) : Bool :=
  (s.members m).all fun n => (s.setRec n).setup.any fun u => p (s.bus u.rig.segment).state

/-- Some member set of a mover is on a segment whose state `p` selects. -/
def State.segmentsAny (s : State) (m : Mover) (p : SegState → Bool) : Bool :=
  (s.members m).any fun n => (s.setRec n).setup.any fun u => p (s.bus u.rig.segment).state

/-- Some member set of a mover is on segment `f`. -/
def State.moverOn (s : State) (m : Mover) (f : Segment) : Bool :=
  (s.members m).any fun n => (s.setRec n).setup.any fun u => decide (u.rig.segment = f)

/-! ## Claims and the records of their movers (R7, R8) -/

/-- The claim field of a mover's records: of every member's set record, and of the bond's (R7). -/
def State.setClaimField (s : State) (m : Mover) (x : Option Nat) : State :=
  let s1 := s.updSets (s.members m) fun _ r => { r with claim := x }
  match m with
  | .set _ => s1
  | .bond b => { s1 with bonds := Tab.put s1.bonds b ((s1.bond? b).map fun r => { r with claim := x }) }

/-- The engage notice: every set of the mover becomes ENGAGED and keeps its rest position (R7). -/
def State.engage (s : State) (m : Mover) : State := s.updSets (s.members m) fun _ r => { r with state := .engaged }

/-- How a claim in a state other than WAITING ends (R8). -/
inductive Ending
  | at (ps : List (Nat × Int))
  | faulted
  deriving DecidableEq, Repr

/-- The position a list of member positions gives for a set; a free value where it gives none (log entry 9). -/
def positionIn (ps : List (Nat × Int)) (n : Nat) : Int :=
  ((ps.find? fun p => decide (p.1 = n)).map Prod.snd).getD (Config.absentPosition n)

/-- One member's record at the disengage notice (R8): by retirement or arrival it becomes RESTING where its position lies
within its widened trims, and BARRED with TRIM otherwise; by the retirement of a FAULTED claim it becomes BARRED with
FAULTED_CLAIM. -/
def SetRec.disengage (r : SetRec) (e : Ending) (n : Nat) : SetRec :=
  match e with
  | .at ps => if r.setup.any (fun u => u.inRange (positionIn ps n)) then r.rest (positionIn ps n) else r.bar .trim
  | .faulted => r.bar .faultedClaim

/-- The claim table without claim `n` (R29, R43). -/
def State.dropClaim (s : State) (n : Nat) : State := { s with claims := s.claims.filter fun c => decide (c.number ≠ n) }

/-- A WAITING claim removed with the detach notice of R7 (R43). The Group Table's part is the caller's. -/
def State.removeWaiting (s : State) (c : ClaimRec) : State := (s.dropClaim c.number).setClaimField c.mover none

/-- Group record `g` replaced. -/
def State.putGroup (s : State) (g : Nat) (x : Option GroupRec) : State := { s with groups := Tab.put s.groups g x }

/-- Group `g` where it is in use. -/
def State.group? (s : State) (g : Nat) : Option GroupRec := Tab.record? s.groups g

/-- The WAITING claims named by a list of numbers removed, in the order of the list (R83, R85). -/
def State.removeMembers (s : State) (ns : List Nat) : State :=
  ns.foldl (fun t n => match t.claim? n with | some c => t.removeWaiting c | none => t) s

/-- A group that is not granted freed with its WAITING members (R83, R84, R85). -/
def State.dissolveGroup (s : State) (g : Nat) (x : GroupRec) : State := (s.removeMembers x.members).putGroup g none

/-- A claim number leaves the member list of its group (R84, R89): a FORMING group stays; a READY group with two or more
members left takes their number as its expected count, and with fewer is cancelled, latching WAIT_CANCELLED; a GRANTED
group left empty is freed. -/
def State.groupDrop (s : State) (c : ClaimRec) : State :=
  match c.group with
  | none => s
  | some g =>
    match s.group? g with
    | none => s
    | some x =>
      let y := { x with members := x.members.filter fun n => decide (n ≠ c.number) }
      match x.state with
      | .forming => s.putGroup g (some y)
      | .ready =>
        if 2 ≤ y.members.length then s.putGroup g (some { y with expected := y.members.length })
        else latch .waitCancelled (s.dissolveGroup g y)
      | .granted => s.putGroup g (if y.members = [] then none else some y)

/-- A claim in a state other than WAITING removed (R43): its record leaves the table, the disengage notice of R8 acts on
its sets, its group drops it, and the notices of R6 and the group re-evaluation follow. The pass is the caller's. -/
def State.removeLive (s : State) (c : ClaimRec) (e : Ending) : State :=
  let s1 := (s.dropClaim c.number).setClaimField c.mover none
  let s2 := s1.updSets (s1.members c.mover) fun n r => r.disengage e n
  trustNotices s [c.mover] ((setNotices s s2).groupDrop c)

/-! ## Faults (R42) -/

/-- The states from which a claim can enter FAULTED (R42). -/
def ClaimRec.canFault (c : ClaimRec) : Bool := c.live && decide (c.state ≠ .faulted)

/-- A claim record entering FAULTED (R42, R144). -/
def ClaimRec.fault (c : ClaimRec) (k : FaultCause) : ClaimRec :=
  { c with state := .faulted, cause := some k, reasons := Reasons.empty, sup := c.sup.map Supervision.onFault }

/-- The fault of a partner: OPERATOR in place of GROUP for a member in GRANTED, MOVING or HELD (R92). -/
def ClaimRec.partnerFaulted (c : ClaimRec) : ClaimRec :=
  if c.holdable then c.hold fun r => { r with operator := true, group := false } else c

/-- A fault finding taken for claim `c` (R42): where it can fault, the record enters FAULTED, CLAIM_FAULT is latched, its
mover's column is raised where the mover was trusted (R142), its group partners take OPERATOR (R92), and the groups are
re-evaluated (R90). A claim already FAULTED, or WAITING, is unchanged. -/
def State.faultClaim (s : State) (c : ClaimRec) (k : FaultCause) : State :=
  if c.canFault then
    let s1 := latch .claimFault (s.updClaim c.number fun x => x.fault k)
    let s2 := if s.untrusted c.mover then s1 else s1.raiseColumn c.mover
    (s2.mapClaims fun d => if c.partner d then d.partnerFaulted else d).regroup
  else s

/-! ## Links and responses -/

/-- The record of a link. -/
def State.link (s : State) (l : Link) : LinkRec := s.links.get l

/-- The record of a link replaced. -/
def State.putLink (s : State) (l : Link) (x : LinkRec) : State := { s with links := s.links.put l x }

/-- The record of a link changed. -/
def State.updLink (s : State) (l : Link) (g : LinkRec → LinkRec) : State := s.putLink l (g (s.link l))

/-- READY is asserted while the role is not OFF and at least one layer is FREE (R166, R168, R180). -/
def LinkRec.ready (x : LinkRec) : Bool :=
  decide (x.role ≠ .off) && (decide (x.layer0 = .free) || decide (x.layer1 = .free))

/-- What an owner answers: a result code and the payload its entry gives (R179). -/
structure Reply where
  result : Result
  payload : List Byte
  deriving DecidableEq, Repr

/-- A reply without payload. -/
def Reply.of (r : Result) : Reply := { result := r, payload := [] }

/-- DONE with a payload. -/
def Reply.done (p : List Byte) : Reply := { result := .done, payload := p }

/-- The code of an obstacle kind and of a basis (R192). -/
def Obstacle.bytes (o : Obstacle) : List Byte :=
  [byteOf (match o.kind with | .keepout => 0 | .set => 1 | .bond => 2), byteOf o.number,
   byteOf (match o.basis with | .region => 0 | .column => 1)]

/-- CONFLICT with the obstacle it names (R34, R192). -/
def Reply.conflict (o : Option Obstacle) : Reply := { result := .conflict, payload := (o.map Obstacle.bytes).getD [] }

/-- The response formed for a reply, with the attention summary as it stands once the request has been taken (R179,
R184). -/
def State.response (s : State) (kind : Byte) (tag : Word16) (superseded : Bool) (r : Reply) : Response :=
  { kind := kind, tag := tag, result := r.result, superseded := superseded, summary := s.attention.summary, payload := r.payload }

/-- A response placed at the tail of a link's response queue (R170). -/
def State.enqueue (s : State) (l : Link) (x : Response) : State :=
  s.updLink l fun r => { r with queue := r.queue ++ [x] }

/-- A response placed in a link's priority response slot (R171). -/
def State.answerPriority (s : State) (l : Link) (x : Response) : State :=
  s.updLink l fun r => { r with priorityResponse := some x }

end Sys2Proof.Machine
end

