-- ==== Sys2Proof/Machine/Grants.lean ====
section
/-! DEFINITION. Spans and grants: R31, R32, R35, the group grant of R87 and R88, the wait queues and passes of the Grant Arbiter (R63 to R72), and the creation of claim records (R29, R76). -/

namespace Sys2Proof.Machine

/-! ## Spans (R31, R32) -/

/-- The rest positions of a mover's sets, as the start positions of a grant (R31, R35; for STANDBY, log entry 10). -/
def State.startsOf (s : State) (m : Mover) : List (Nat × Int) := (s.members m).map fun n => (n, s.restOf n)

/-- The last reported positions of a mover's sets (R49). -/
def State.lastPositions (s : State) (m : Mover) : List (Nat × Int) := (s.members m).map fun n => (n, s.lastPosition n)

/-- The member targets for a lead target: each start position plus the lead's displacement (R31). -/
def targetsFrom (starts : List (Nat × Int)) (target : Int) : List (Nat × Int) :=
  match starts with
  | [] => []
  | p :: _ => starts.map fun q => (q.1, q.2 + (target - p.2))

/-- The swept span from start of travel `froms` to member targets `tos` at speed `v` (R31). -/
def State.sweptSpan (s : State) (v : Nat) (froms tos : List (Nat × Int)) : Option Region :=
  s.hullOver (froms.map Prod.fst) fun n u => u.sweptRegion s.clearance v (positionIn froms n) (positionIn tos n)

/-- The span of a STANDBY claim: the resting region widened by its reserves (R32). -/
def State.standbySpan (s : State) (m : Mover) (below above : Nat) : Option Region :=
  (s.restingRegion m).map fun r => r.withHeight (r.heightLo - below) (r.heightHi + above)

/-- The arrived span: the resting region at given positions (R32). -/
def State.arrivedSpan (s : State) (m : Mover) (ps : List (Nat × Int)) : Option Region :=
  s.restingAt (s.members m) (positionIn ps)

/-- Every member target lies within its member's trims (R35, R46, R48). -/
def State.targetsInTrims (s : State) (ts : List (Nat × Int)) : Bool :=
  ts.all fun p => (s.setRec p.1).setup.any fun u => u.inTrims p.2

/-- The travel of a mover's lead to a target: the target less its rest position, without sign (R46, R47, R87). -/
def State.leadTravel (s : State) (m : Mover) (target : Nat) : Nat :=
  ((target : Int) - ((s.lead m).map s.restOf).getD (Config.absentPosition 0)).natAbs

/-- The arrival tolerance of a mover's lead (R46, R47). -/
def State.leadTolerance (s : State) (m : Mover) : Nat :=
  (((s.lead m).bind fun n => (s.setRec n).setup).map fun u => u.rig.arrivalTol).getD 0

/-- The least rated speed among a mover's sets (R46). -/
def State.leastRated (s : State) (m : Mover) : Nat :=
  (((s.members m).filterMap fun n => (s.setRec n).setup.map fun u => u.rig.rated).min?).getD 0

/-! ## The conditions of a grant (R35) -/

/-- Grants are allowed: the stop state is RUN and hold-all is off (condition 1 of R35). -/
def State.grantsAllowed (s : State) : Bool := decide (s.stop.state = .run) && !s.stop.holdAll

/-- The start positions, member targets and span a claim would take at a grant. -/
structure Plan where
  starts : List (Nat × Int)
  targets : List (Nat × Int)
  span : Region
  deriving DecidableEq, Repr

/-- The member targets of a claim from the present rest positions; none for a STANDBY claim (R31). -/
def State.targetsOf (s : State) (c : ClaimRec) : List (Nat × Int) :=
  match c.kind with
  | .move => targetsFrom (s.startsOf c.mover) (c.target.getD 0)
  | .standby => []

/-- What claim `c` would take at a grant at speed `v` (R31, R32). -/
def State.planOf (s : State) (c : ClaimRec) (v : Nat) : Option Plan :=
  let starts := s.startsOf c.mover
  let targets := s.targetsOf c
  let span := match c.kind with
    | .move => s.sweptSpan v starts targets
    | .standby => s.standbySpan c.mover ((c.reserves.map Prod.fst).getD 0) ((c.reserves.map Prod.snd).getD 0)
  span.map fun r => { starts := starts, targets := targets, span := r }

/-- Conditions 1 to 4 of R35. -/
def State.grantConditions (s : State) (c : ClaimRec) : Bool :=
  s.grantsAllowed && s.segmentsAll c.mover (fun x => decide (x = .polling)) && !s.untrusted c.mover &&
    s.targetsInTrims (s.targetsOf c)

/-- The plan of a grant at speed `v` where all five conditions of R35 hold. -/
def State.grantPlan (s : State) (c : ClaimRec) (v : Nat) : Option Plan :=
  if s.grantConditions c then (s.planOf c v).filter fun p => s.fits [c.mover] p.span else none

/-! ## The grant (R35, R121) -/

/-- The deadline in ms, running, of a claim that carries one (R121, R140). -/
def ClaimRec.fullDeadline (c : ClaimRec) : DeadlineTimer :=
  match c.deadline with
  | some d => .running (100 * d)
  | none => .absent

/-- The members of a supervision record at its opening (R121). -/
def State.openMembers (s : State) (m : Mover) (starts : List (Nat × Int)) : List SupMember :=
  (s.members m).filterMap fun n => (s.setRec n).setup.map fun u =>
    { set := n, segment := u.rig.segment, address := u.rig.address, takeCount := 0, takenMark := false, fresh := none,
      lastPosition := positionIn starts n, stallRef := none }

/-- The supervision record opened at a grant (R121): the take window runs for a MOVE, and its deadline where it carries
one. -/
def State.openSupervision (s : State) (c : ClaimRec) (starts : List (Nat × Int)) : Supervision :=
  { members := s.openMembers c.mover starts
    take := match c.kind with
      | .move => .running
      | .standby => .stopped
    stall := none
    stopWindow := .stopped
    deadline := match c.kind with
      | .move => c.fullDeadline
      | .standby => .absent }

/-- A claim record at its grant (R35): a MOVE enters GRANTED at speed `v` with its taken flag clear, a STANDBY enters
STANDING; the wait-limit timer is discarded (R73). -/
def ClaimRec.granted (c : ClaimRec) (v : Nat) (p : Plan) (x : Supervision) : ClaimRec :=
  { c with
    state := match c.kind with
      | .move => .granted
      | .standby => .standing
    starts := p.starts
    memberTargets := p.targets
    grantedSpeed := match c.kind with
      | .move => some v
      | .standby => none
    span := some p.span
    taken := false
    waitTimer := none
    sup := some x }

/-- The grant of claim `c` with a plan at speed `v`: the record of R35 and the engage notice of R7. -/
def State.grant (s : State) (c : ClaimRec) (v : Nat) (p : Plan) : State :=
  (s.updClaim c.number fun x => x.granted v p (s.openSupervision c p.starts)).engage c.mover

/-! ## Creation of a record (R29, R7, R76) -/

/-- The lowest claim number free (R29). -/
def State.freeClaim (s : State) : Option Nat :=
  (Tab.numbers 160).find? fun n => (s.claim? n).isNone

/-- A claim record joins the end of the creation order, with the attach notice of R7; TABLE_NEAR_FULL is latched where the
occupancy is then at or above the threshold (R76). -/
def State.create (s : State) (c : ClaimRec) : State :=
  let s1 := ({ s with claims := s.claims ++ [c] } : State).setClaimField c.mover (some c.number)
  latchIf (decide (s.nearFull ≤ s1.claims.length)) .tableNearFull s1

/-! ## The group grant (R87, R88) -/

/-- The member claims of a group, in member-list order. -/
def State.memberClaims (s : State) (x : GroupRec) : List ClaimRec := x.members.filterMap s.claim?

/-- The travel of a member's lead (R87, R88). -/
def State.travelOf (s : State) (c : ClaimRec) : Nat := s.leadTravel c.mover (c.target.getD 0)

/-- The requested speed of a MOVE claim. -/
def ClaimRec.speed (c : ClaimRec) : Nat := c.requestedSpeed.getD 0

/-- Member `c` takes longer over its travel than `d`, or as long with a lower claim number (R88). -/
def State.slower (s : State) (c d : ClaimRec) : Bool :=
  decide (s.travelOf d * c.speed < s.travelOf c * d.speed) ||
    (decide (s.travelOf c * d.speed = s.travelOf d * c.speed) && decide (c.number < d.number))

/-- The member whose travel takes longest (R88). -/
def State.slowest (s : State) : List ClaimRec → Option ClaimRec
  | [] => none
  | c :: cs => some (cs.foldl (fun k d => if s.slower d k then d else k) c)

/-- The SYNC speed of member `c` beside the slowest member `k` (R88). -/
def State.syncSpeed (s : State) (k c : ClaimRec) : Nat :=
  min c.speed (ceilDiv (k.speed * s.travelOf c) (s.travelOf k))

/-- The granted speed of a member of a group with members `cs` (step 3 of R87). -/
def State.groupSpeed (s : State) (sync : Bool) (cs : List ClaimRec) (c : ClaimRec) : Nat :=
  match sync, s.slowest cs with
  | true, some k => s.syncSpeed k c
  | true, none => c.speed
  | false, _ => c.speed

/-- Step 4 of R87: the spans tested in member-list order, each against the committed regions as they stand and against the
spans of the members accepted before it. -/
def State.planMembers (s : State) (v : ClaimRec → Nat) : List Region → List ClaimRec → Option (List (ClaimRec × Plan))
  | _, [] => some []
  | accepted, c :: cs =>
    match s.planOf c (v c) with
    | none => none
    | some p =>
      if s.fits [c.mover] p.span && !accepted.any p.span.conflicts then
        (s.planMembers v (accepted ++ [p.span]) cs).map fun rest => (c, p) :: rest
      else none

/-- The plans of a READY group that passes every step of R87, with the speed of each member. -/
def State.groupPlan (s : State) (x : GroupRec) : Option (List (ClaimRec × Plan)) :=
  let cs := s.memberClaims x
  if cs.all (fun c => s.grantConditions c && decide (s.leadTolerance c.mover < s.travelOf c)) then
    s.planMembers (s.groupSpeed x.sync cs) [] cs
  else none

/-- The group grant: every member granted in member-list order, the group GRANTED and its timer discarded (R87). -/
def State.grantGroup (s : State) (g : Nat) (x : GroupRec) (ps : List (ClaimRec × Plan)) : State :=
  let v := s.groupSpeed x.sync (s.memberClaims x)
  (ps.foldl (fun t p => t.grant p.1 (v p.1) p.2) s).putGroup g (some { x with state := .granted, timer := none })

/-! ## Wait queues (R63, R64) -/

/-- An entry of a wait queue (R63). -/
inductive Entry
  | claim (n : Nat)
  | group (g : Nat)
  deriving DecidableEq, Repr

/-- The entry that a claim stands for in the queue of `l`, with its class: itself where it is WAITING in no group, or its
READY group where it is the first of the member list (R63, R64). -/
def State.entryOf (s : State) (l : Link) (c : ClaimRec) : Option (Entry × ClaimClass) :=
  if c.state = .waiting ∧ c.owner = l then
    match c.group with
    | none => some (.claim c.number, c.cls)
    | some g =>
      match s.group? g with
      | some x => if x.state = .ready ∧ x.members.head? = some c.number then some (.group g, x.cls) else none
      | none => none
  else none

/-- The wait queue of a desk: SHOW entries, then WORK entries, each in creation order (R64). -/
def State.queueOf (s : State) (l : Link) : List Entry :=
  let es := s.claims.filterMap (s.entryOf l)
  (es.filter fun e => decide (e.2 = .forShow)).map Prod.fst ++ (es.filter fun e => decide (e.2 = .forWork)).map Prod.fst

/-- Every wait queue is empty (R70, R72). -/
def State.queuesEmpty (s : State) : Bool :=
  (s.queueOf .dl0).isEmpty && (s.queueOf .dl1).isEmpty && (s.queueOf .dl2).isEmpty

/-! ## Passes (R69 to R72) -/

/-- An entry examined: the state after its grant where it is granted (R71). -/
def State.examine (s : State) (e : Entry) : Option State :=
  match e with
  | .claim n =>
    match s.claim? n with
    | some c => (s.grantPlan c c.speed).map fun p => s.grant c c.speed p
    | none => none
  | .group g =>
    match s.group? g with
    | some x => (s.groupPlan x).map fun ps => s.grantGroup g x ps
    | none => none

/-- The entries of one turn examined in order, until the served count reaches the weight `w`; the flag says whether the
turn granted anything (R71). -/
def examineAll (w : Nat) : List Entry → State → Bool → State × Bool
  | [], s, granted => (s, granted)
  | e :: es, s, granted =>
    match s.examine e with
    | none => examineAll w es s granted
    | some t =>
      if w ≤ t.served + 1 then ({ t with served := t.served + 1 }, true)
      else examineAll w es { t with served := t.served + 1 } true

/-- One turn of the desk the pointer names; a LOST desk's turn examines nothing (R71). -/
def State.turn (s : State) : State × Bool :=
  if (s.link s.pointer).presence = .lost then (s, false)
  else examineAll (s.weights.get s.pointer) (s.queueOf s.pointer) s false

/-- The pointer moves to the next desk and the served count becomes 0 (R70, R72). -/
def State.nextDesk (s : State) : State := { s with pointer := s.pointer.next, served := 0 }

/-- Turns until the pass ends (R72); `empty` counts consecutive turns that granted nothing. -/
def passTurns : Nat → Nat → State → State
  | 0, _, s => s
  | fuel + 1, empty, s =>
    let r := s.turn
    if r.2 then
      if r.1.queuesEmpty then r.1 else passTurns fuel 0 r.1.nextDesk
    else if 2 ≤ empty then r.1.nextDesk
    else passTurns fuel (empty + 1) r.1.nextDesk

/-- Turns enough for any pass: each granting turn takes a claim out of the queues, and three empty turns in a row end the
pass (R72). -/
def State.passFuel (s : State) : Nat := 3 * s.claims.length + 3

/-- One pass of the Grant Arbiter (R70). -/
def State.pass (s : State) : State :=
  if !s.grantsAllowed then s
  else if s.queuesEmpty then s
  else
    let s1 := if s.weights.get s.pointer ≤ s.served then s.nextDesk else s
    passTurns s1.passFuel 0 s1

/-- A pass where the step carries one of the events of R68 (R69). -/
def passIf (b : Bool) (s : State) : State := if b then s.pass else s

end Sys2Proof.Machine
end

