-- ==== Sys2Proof/Machine/Images.lean ====
section
/-! DEFINITION. What the part sends: response frames (R192), record images (R53, R24, R25, R58, R93, R117, R118, R173, R186), grant frames and line characters (R95, R102, R194), and the images of the hang digest (R195). -/

namespace Sys2Proof.Machine

/-! ## Fields -/

/-- A number of one byte. -/
def b1 (n : Nat) : List Byte := [byteOf n]

/-- The number that bits spell, bit 0 first. -/
def bitsNat : List Bool → Nat
  | [] => 0
  | b :: bs => b.toNat + 2 * bitsNat bs

/-- A byte of flags, bit 0 first (R191). -/
def flags (bs : List Bool) : List Byte := b1 (bitsNat bs)

/-- An optional number of one byte; an absent field is sent as zero (R191). -/
def o1 (x : Option Nat) : List Byte := b1 (x.getD 0)

/-- An optional number of two bytes. -/
def o2 (x : Option Nat) : List Byte := be16 (x.getD 0)

/-- An optional signed quantity of two bytes. -/
def oi2 (x : Option Int) : List Byte := be16i (x.getD 0)

/-- A region bound: two's complement in two bytes where it fits, and two bytes of a free value where it does not (R191;
log entry 8). -/
def boundBytes (i : Int) : List Byte :=
  if -32768 ≤ i ∧ i ≤ 32767 then be16i i else bytes16 (Config.boundOverflow i)

/-- A region: depth low, depth high, height low, height high. -/
def Region.bytes (r : Region) : List Byte :=
  boundBytes r.depthLo ++ boundBytes r.depthHi ++ boundBytes r.heightLo ++ boundBytes r.heightHi

/-- An optional region. -/
def regionBytes (r : Option Region) : List Byte := (r.map Region.bytes).getD (List.replicate 8 0#8)

/-! ## Codes (R191, R192, R194) -/

/-- A result code (R192). -/
def Result.code : Result → Nat
  | .done => 0
  | .queued => 1
  | .nullMove => 2
  | .notPermitted => 3
  | .malformed => 4
  | .noSuch => 5
  | .setVacant => 6
  | .setDark => 7
  | .setBarred => 8
  | .engaged => 9
  | .bonded => 10
  | .locked => 11
  | .trim => 12
  | .speed => 13
  | .conflict => 14
  | .tableFull => 15
  | .notOwner => 16
  | .wrongState => 17
  | .groupMismatch => 18
  | .zeroTravel => 19
  | .stopped => 20
  | .holding => 21
  | .segmentBusy => 22
  | .busy => 23
  | .deskPresent => 24

/-- A claim state (the LOOKUP CLAIM image). -/
def ClaimState.code : ClaimState → Nat
  | .waiting => 0
  | .granted => 1
  | .moving => 2
  | .held => 3
  | .retiring => 4
  | .arrived => 5
  | .standing => 6
  | .faulted => 7

/-- A fault cause (the LOOKUP CLAIM image). -/
def FaultCause.code : FaultCause → Nat
  | .noTake => 0
  | .stall => 1
  | .noStop => 2
  | .breach => 3
  | .skew => 4
  | .load => 5
  | .stale => 6
  | .station _ => 7

/-- A station status code (R194). -/
def Status.code : Status → Nat
  | .ready => 1
  | .running => 2
  | .stopping => 3
  | .braked => 4
  | .overload => 8
  | .slack => 9
  | .overspeed => 10
  | .limit => 11
  | .drive => 12

/-- The status of a code; none for an unknown code (R194). -/
def statusOf? (b : Byte) : Option Status :=
  match b.toNat with
  | 1 => some .ready
  | 2 => some .running
  | 3 => some .stopping
  | 4 => some .braked
  | 8 => some .overload
  | 9 => some .slack
  | 10 => some .overspeed
  | 11 => some .limit
  | 12 => some .drive
  | _ => none

/-- A status of fault class (R105). -/
def Status.isFault : Status → Bool
  | .ready => false
  | .running => false
  | .stopping => false
  | .braked => false
  | .overload => true
  | .slack => true
  | .overspeed => true
  | .limit => true
  | .drive => true

/-- The fault class a cause carries, zero for any cause but STATION. -/
def FaultCause.classCode : FaultCause → Nat
  | .noTake => 0
  | .stall => 0
  | .noStop => 0
  | .breach => 0
  | .skew => 0
  | .load => 0
  | .stale => 0
  | .station c => c.code

/-- A set state (the LOOKUP SET image). -/
def SetState.code : SetState → Nat
  | .vacant => 0
  | .dark => 1
  | .resting => 2
  | .engaged => 3
  | .barred => 4

/-- A barred cause (the LOOKUP SET image). -/
def BarredCause.code : BarredCause → Nat
  | .station => 0
  | .drift => 1
  | .identity => 2
  | .trim => 3
  | .conflict => 4
  | .load => 5
  | .faultedClaim => 6

/-- A latest outcome, absent first (the LOOKUP SET image). -/
def latestCode : Option OutcomeClass → Nat
  | none => 0
  | some .healthy => 1
  | some .miss => 2
  | some .overload => 3
  | some .slack => 4
  | some .overspeed => 5
  | some .limit => 6
  | some .drive => 7

/-- A group state, in the order of R78. -/
def GroupState.code : GroupState → Nat
  | .forming => 0
  | .ready => 1
  | .granted => 2

/-- A segment state, in the order IDLE, POLLING, BROKEN, LOOP of R99. -/
def SegState.code : SegState → Nat
  | .idle => 0
  | .polling => 1
  | .broken => 2
  | .loop => 3

/-- A stop state, in the order of R153. -/
def StopState.code : StopState → Nat
  | .run => 0
  | .stopped => 1
  | .latched => 2

/-- A presence state, in the order of R174. -/
def Presence.code : Presence → Nat
  | .absent => 0
  | .present => 1
  | .lost => 2

/-- A role, in the order of R166. -/
def Role.code : Role → Nat
  | .full => 0
  | .hold => 1
  | .lookup => 2
  | .off => 3

/-- A last outcome: VALID, then the miss kinds in the order of R97. -/
def PollOutcome.code : PollOutcome → Nat
  | .valid => 0
  | .miss .noAnswer => 1
  | .miss .incomplete => 2
  | .miss .badCharacter => 3
  | .miss .badCheck => 4
  | .miss .wrongAddress => 5
  | .miss .wrongForm => 6

/-- A grant-frame command (R194). -/
def BusCommand.code : BusCommand → Nat
  | .go => 1
  | .stop => 2
  | .stay => 3
  | .halt => 4
  | .identify => 5
  | .test => 6

/-- A class: SHOW, WORK. -/
def classCode : ClaimClass → Nat
  | .forShow => 0
  | .forWork => 1

/-- A routing: URGENT, ROUTINE. -/
def Routing.code : Routing → Nat
  | .urgent => 0
  | .routine => 1

/-- A summary mode: LATEST, ACCUMULATED. -/
def SummaryMode.code : SummaryMode → Nat
  | .latest => 0
  | .accumulated => 1

/-- On or off, coded by its place in that list (R178; log entry 19). -/
def onOffCode (b : Bool) : Nat := if b then 0 else 1

/-- The number of a mover in its table. -/
def moverNumber : Mover → Nat
  | .set n => n
  | .bond n => n

/-- A mover is a bond. -/
def moverIsBond : Mover → Bool
  | .set _ => false
  | .bond _ => true

/-! ## Response frames (R192) -/

/-- The header of a response payload (R192). -/
def Response.header (x : Response) : List Byte :=
  bytes16 x.tag ++ b1 x.result.code ++ flags [x.superseded, x.summary.urgent, x.summary.routine] ++
    [byteOf (bitsNat x.summary.latched / 65536), byteOf (bitsNat x.summary.latched / 256), byteOf (bitsNat x.summary.latched)] ++
    bytes16 x.summary.sequence

/-- A response frame: kind with bit 7 set, length, payload, CRC-16 (R192). -/
def Response.frame (x : Response) : List Byte :=
  let body := [x.kind ||| 0x80#8, byteOf (x.header ++ x.payload).length] ++ (x.header ++ x.payload)
  body ++ bytes16 (crc16 body)

/-! ## Claims -/

/-- The wait-limit time remaining in ms, while the timer runs (R53, R73). -/
def ClaimRec.waitRemaining (c : ClaimRec) : Option Nat := c.waitTimer.map fun e => 100 * c.waitLimit.getD 0 - e

/-- The time a deadline timer has left, running or paused. -/
def DeadlineTimer.remaining : DeadlineTimer → Option Nat
  | .absent => none
  | .running r => some r
  | .paused r => some r

/-- A deadline timer is paused. -/
def DeadlineTimer.isPaused : DeadlineTimer → Bool
  | .absent => false
  | .running _ => false
  | .paused _ => true

/-- The deadline timer of a claim (R121). -/
def ClaimRec.deadlineTimer (c : ClaimRec) : DeadlineTimer := (c.sup.map Supervision.deadline).getD .absent

/-- Milliseconds as units of 100 ms, rounded up. -/
def tenths (ms : Nat) : Nat := ceilDiv ms 100

/-- The hold reasons as the image lays them out. -/
def Reasons.list (r : Reasons) : List Bool :=
  [r.operator, r.all, r.estop, r.segment0 || r.segment1, r.deskLost, r.column, r.group]

/-- One member entry of the claim image: set number, start position, member target. -/
def ClaimRec.memberEntry (c : ClaimRec) (n : Nat) : List Byte :=
  b1 n ++ oi2 ((c.starts.find? fun p => decide (p.1 = n)).map Prod.snd) ++
    oi2 ((c.memberTargets.find? fun p => decide (p.1 = n)).map Prod.snd)

/-- A list of bytes cut or filled with zeros to a length. -/
def padTo (k : Nat) (bs : List Byte) : List Byte := (bs ++ List.replicate k 0#8).take k

/-- The presence bits of the claim image. -/
def ClaimRec.presence (c : ClaimRec) : List Bool :=
  [c.cueTag.isSome, c.target.isSome, !c.memberTargets.isEmpty, c.requestedSpeed.isSome, c.grantedSpeed.isSome,
   c.reserves.isSome, !c.starts.isEmpty, c.span.isSome, c.waitLimit.isSome, c.deadline.isSome, c.group.isSome,
   c.cause.isSome, c.waitRemaining.isSome, c.deadlineTimer.remaining.isSome]

/-- The flags of the claim image. -/
def ClaimRec.imageFlags (c : ClaimRec) : List Bool :=
  [decide (c.cls = .forWork), decide (c.kind = .standby), moverIsBond c.mover, c.taken, c.keep, c.waitAllowed, c.late,
   c.deadlineTimer.isPaused]

/-- How many claims in the table were created before this one (R53). -/
def State.claimsBefore (s : State) (n : Nat) : Nat := (s.claims.takeWhile fun c => decide (c.number ≠ n)).length

/-- The image returned by LOOKUP CLAIM, 62 bytes (R53). -/
def State.claimImage (s : State) (c : ClaimRec) : List Byte :=
  b1 c.number ++ b1 c.owner.code ++ flags c.imageFlags ++ b1 c.state.code ++ be16 (bitsNat c.presence) ++
  b1 (moverNumber c.mover) ++ b1 (s.claimsBefore c.number) ++ o2 c.cueTag ++ o2 c.target ++ o2 c.requestedSpeed ++
  o2 c.grantedSpeed ++ o2 (c.reserves.map Prod.fst) ++ o2 (c.reserves.map Prod.snd) ++ o2 c.waitLimit ++ o2 c.deadline ++
  o1 c.group ++ o1 (c.cause.map FaultCause.code) ++ o1 (c.cause.map FaultCause.classCode) ++ flags c.reasons.list ++
  flags [c.reasons.segment0, c.reasons.segment1] ++ o2 (c.waitRemaining.map tenths) ++
  o2 (c.deadlineTimer.remaining.map tenths) ++ regionBytes c.span ++ b1 (s.members c.mover).length ++
  padTo 20 ((s.members c.mover).flatMap c.memberEntry)

/-- The numbers LIST CLAIMS finds: in use, not below the start, and of the owner where one is given, ascending (R54). -/
def State.listed (s : State) (q : ListReq) : List Nat :=
  (Tab.numbers 160).filter fun n =>
    decide (q.start ≤ n) && (s.claim? n).any fun c => q.owner.all fun o => decide (c.owner.code = o)

/-- The payload of LIST CLAIMS: presence, the count in two bytes, as many numbers as there are to send, next (R54; the layout
is log entry 16). -/
def State.listImage (s : State) (q : ListReq) : List Byte :=
  let ns := s.listed q
  let next := (ns.drop Config.maxListed).head?
  flags [next.isSome] ++ be16 (ns.take Config.maxListed).length ++ (ns.take Config.maxListed).flatMap b1 ++ o1 next

/-- The payload of LOOKUP KEEPOUT (R58). -/
def Keepout.image (k : Keepout) : List Byte := flags [k.tag.isSome] ++ k.region.bytes ++ o2 k.tag

/-! ## Sets and bonds -/

/-- The kind of a mover's current region (R24). -/
inductive RegionKind
  | nothing | resting | span | column
  deriving DecidableEq, Repr

/-- A region kind, coded NONE, RESTING, SPAN, COLUMN (the LOOKUP SET image). -/
def RegionKind.code : RegionKind → Nat
  | .nothing => 0
  | .resting => 1
  | .span => 2
  | .column => 3

/-- The current region of a mover with configured sets, and its kind (R24). -/
def State.currentRegion (s : State) (m : Mover) : RegionKind × Option Region :=
  match s.liveClaim m with
  | some c => (.span, c.span)
  | none => if s.untrusted m then (.column, s.column m) else (.resting, s.restingRegion m)

/-- The current region of the mover of set `n`, NONE for a VACANT set (R24). -/
def State.setRegion (s : State) (n : Nat) : RegionKind × Option Region :=
  if (s.setRec n).setup.isSome then s.currentRegion (s.moverOf n) else (.nothing, none)

/-- The rig and hang bytes of the set image, offsets 4 to 33. -/
def setupBytes : Option Setup → List Byte
  | none => List.replicate 30 0#8
  | some u =>
    b1 u.rig.address ++ b1 u.rig.arrivalTol ++ be16 u.rig.depth ++ be16 u.rig.lower ++ be16 u.rig.upper ++ be16 u.rig.rated ++
      be16 u.rig.stopConstant ++ o2 u.rig.fixedAllowance ++ be16 u.rig.stallWindow ++ be16 u.hang.top ++ be16 u.hang.drop ++
      be16 u.hang.fore ++ be16 u.hang.aft ++ be16 u.hang.sway ++ be16 u.hang.loadMin ++ be16 u.hang.loadMax

/-- The last reported fields of the set image: position, velocity, load, status code. -/
def reportBytes : Option Report → List Byte
  | none => List.replicate 7 0#8
  | some r => be16i r.position ++ be16i r.velocity ++ be16 r.load ++ b1 r.status.code

/-- A set of fault classes as bits (the LOOKUP SET image). -/
def FaultClasses.list (k : FaultClasses) : List Bool := [k.miss, k.overload, k.slack, k.overspeed, k.limit, k.drive]

/-- The image returned by LOOKUP SET, 58 bytes (R24). -/
def State.setImage (s : State) (n : Nat) : List Byte :=
  let r := s.setRec n
  let x := s.faultSummary n
  b1 n ++ b1 r.state.code ++
  flags [r.setup.any (fun u => decide (u.rig.segment = .fb1)), r.setup.any (fun u => decide (u.rig.stopMode = .fixed)),
         r.identityVerified, r.locked, decide (s.attention.mode = .accumulated)] ++
  flags [r.setup.isSome, r.setup.any (fun u => u.rig.fixedAllowance.isSome), r.restPosition.isSome, r.lastReport.isSome,
         r.bond.isSome, r.claim.isSome, r.barredCause.isSome, x.rawCode.isSome] ++
  setupBytes r.setup ++ oi2 r.restPosition ++ reportBytes r.lastReport ++ o1 r.bond ++ o1 r.claim ++
  o1 (r.barredCause.map BarredCause.code) ++ b1 (s.setRegion n).1.code ++ regionBytes (s.setRegion n).2 ++
  flags (x.shown s.attention.mode).list ++ b1 (latestCode x.latest) ++ [x.rawCode.getD 0#8]

/-- The payload of LOOKUP BOND: presence, members, skew tolerance, claim number, region and region kind, trusted or
untrusted (R25; the layout is log entry 16). -/
def State.bondImage (s : State) (b : Nat) (x : BondRec) : List Byte :=
  flags [x.claim.isSome] ++ padTo 4 (x.members.flatMap b1) ++ be16 x.skew ++ o1 x.claim ++
    regionBytes (s.currentRegion (.bond b)).2 ++ b1 (s.currentRegion (.bond b)).1.code ++
    b1 (if s.untrusted (.bond b) then 1 else 0)

/-! ## The hang digest (R195) -/

/-- The fields of a set image: width in bits and value (R195). -/
def Setup.digestFields (u : Setup) : List (Nat × Nat) :=
  [(1, u.rig.segment.code), (1, match u.rig.stopMode with | .auto => 0 | .fixed => 1), (6, u.rig.address - 1),
   (19, (u.rig.stallWindow - 500) * 49 + (u.rig.arrivalTol - 2)), (15, u.rig.depth), (15, u.rig.lower), (15, u.rig.upper),
   (11, u.rig.rated), (11, u.rig.stopConstant), (11, u.rig.fixedAllowance.getD 0), (27, u.hang.top * 10001 + u.hang.drop),
   (27, u.hang.fore * 10001 + u.hang.aft), (9, u.hang.sway), (12, u.hang.loadMin), (12, u.hang.loadMax)]

/-- Fields concatenated, each most significant bit first. -/
def packFields (fs : List (Nat × Nat)) : Nat := fs.foldl (fun acc f => acc * 2 ^ f.1 + f.2 % 2 ^ f.1) 0

/-- A number as `k` bytes, most significant first. -/
def bytesBE (k n : Nat) : List Byte := (List.range k).map fun i => byteOf (n / 256 ^ (k - 1 - i))

/-- The set image of the digest, 24 bytes; all zero for a VACANT set (R195). -/
def digestSetImage (u : Option Setup) : List Byte := bytesBE 24 ((u.map fun x => packFields x.digestFields).getD 0)

/-- The bond image of the digest, 6 bytes; all zero for a free bond (R195). -/
def digestBondImage : Option BondRec → List Byte
  | none => List.replicate 6 0#8
  | some x => padTo 4 (x.members.flatMap b1) ++ be16 x.skew

/-- The hang digest over the set and bond tables (R26, R195). -/
def State.hangDigest (s : State) : Word32 :=
  crc32 ((Tab.numbers 128).flatMap (fun n => digestSetImage (s.setRec n).setup) ++
    (Tab.numbers 16).flatMap fun b => digestBondImage (s.bond? b))

/-- The recomputation of the digest: DIGEST_CHANGED is latched where the new value differs (R26). -/
def State.redigest (s : State) : State :=
  latchIf (decide (s.hangDigest ≠ s.digest)) .digestChanged { s with digest := s.hangDigest }

/-- The number of configured sets (R27). -/
def State.configuredSets (s : State) : Nat := ((Tab.numbers 128).filter fun n => (s.setRec n).setup.isSome).length

/-- The payload of READ DIGEST (R195). -/
def State.digestImage (s : State) : List Byte := bytes32 s.digest ++ b1 s.configuredSets ++ b1 (Tab.used s.bonds)

/-! ## Groups -/

/-- The wait-limit time remaining of a group in ms, while its timer runs (R93). -/
def GroupRec.waitRemaining (x : GroupRec) : Option Nat := x.timer.map fun e => 100 * x.waitLimit.getD 0 - e

/-- One member of the group image: claim number, claim state, granted speed; the speed bytes are zero while the group is
not GRANTED (R93). -/
def State.groupMember (s : State) (x : GroupRec) (n : Nat) : List Byte :=
  b1 n ++ b1 (((s.claim? n).map fun c => c.state.code).getD 0) ++
    o2 (if x.state = .granted then (s.claim? n).bind ClaimRec.grantedSpeed else none)

/-- The payload of LOOKUP GROUP (R93). The last presence bit is that of the members' granted speeds, and the time remaining is in
units of 100 ms rounded up (log entry 16); SYNC is a flag (log entry 19). -/
def State.groupImage (s : State) (g : Nat) (x : GroupRec) : List Byte :=
  flags [x.waitLimit.isSome, x.waitRemaining.isSome, decide (x.state = .granted)] ++
    b1 g ++ b1 x.owner.code ++ b1 (classCode x.cls) ++ flags [x.sync] ++
    be16 x.expected ++ b1 x.state.code ++ o2 x.waitLimit ++ o2 (x.waitRemaining.map tenths) ++ be16 x.members.length ++
    x.members.flatMap (s.groupMember x)

/-! ## Grant frames and line characters (R95, R102, R194) -/

/-- A character of a fly bus line: start bit, data bits, mark bit, stop bit (R95). -/
def lineChar (mark : Bool) (b : Byte) : LineChar := 1#1 ++ BitVec.ofBool mark ++ b ++ 0#1

/-- The five data bytes of a grant frame before its check byte (R194). -/
def Content.data (c : Content) (toggle : Bool) : List Byte :=
  [byteOf (c.command.code + if toggle then 128 else 0)] ++ be16i c.target ++ be16 c.cap

/-- The characters of a poll's address and grant frame as they stand on the line (R95, R194). -/
def frameChars (address : Nat) (c : Content) (toggle : Bool) : List LineChar :=
  lineChar true (byteOf address) :: (c.data toggle ++ [crc8 (c.data toggle)]).map (lineChar false)

/-- A content with target 0 and speed cap 0. -/
def Content.still (k : BusCommand) : Content := { command := k, target := 0, cap := 0 }

/-- Line 3 to 5 of the table of R102: what the mover's claim gives a station of set `n`. -/
def State.claimContent (s : State) (n : Nat) : Content :=
  match s.claimOf (s.moverOf n) with
  | none => Content.still .stay
  | some c =>
    if c.running then { command := .go, target := positionIn c.memberTargets n, cap := c.grantedSpeed.getD 0 }
    else if c.state = .held ∨ c.state = .retiring ∨ c.state = .faulted then Content.still .stop
    else Content.still .stay

/-- The content of a grant frame for the station of set `n`: the first line of the table of R102 that applies. -/
def State.contentFor (s : State) (n : Nat) : Content :=
  if (s.setRec n).state = .dark ∧ ¬ (s.setRec n).identityVerified then Content.still .identify
  else if s.stop.state ≠ .run then Content.still .halt
  else s.claimContent n

/-- The content of the TEST frame for address `a`, number `k` of the test (R114, R194). -/
def testContent (a k : Nat) : Content := { command := .test, target := a, cap := k }

/-- A content as LOOKUP STATION shows it: command, target, speed cap. That the command has its grant-frame code of R194, 1 to 6, and
not its place from 0 is the model's choice (log entry 19). -/
def Content.bytes (c : Content) : List Byte := b1 c.command.code ++ be16i c.target ++ be16 c.cap

/-- An optional content. -/
def contentBytes (c : Option Content) : List Byte := (c.map Content.bytes).getD (List.replicate 5 0#8)

/-! ## Segments and stations -/

/-- The payload of LOOKUP SEGMENT (R117). -/
def Bus.image (b : Bus) : List Byte :=
  flags [b.loopResult.isSome, b.loopResult.any fun r => r.lowestFailed.isSome] ++ b1 b.state.code ++
    be16 b.configured.length ++ be16 ((b.round.map fun r => r.active.length).getD 0) ++ be16 b.idlePointer ++
    be16 b.idleSlice ++ o2 (b.loopResult.map LoopResult.passed) ++ o2 (b.loopResult.map LoopResult.failed) ++
    o2 (b.loopResult.bind LoopResult.lowestFailed)

/-- The payload of LOOKUP STATION: the fields of R98 and the content that would be built now, which an unconfigured station
has none of (R118; log entry 20). -/
def State.stationImage (s : State) (x : Station) : List Byte :=
  let now := x.set.map s.contentFor
  flags [x.set.isSome, x.lastContent.isSome, x.lastOutcome.isSome, x.identity.isSome, now.isSome] ++ o1 x.set ++
    flags [x.toggle] ++ contentBytes x.lastContent ++ be16 x.missCount ++ flags [x.fresh] ++
    o1 (x.lastOutcome.map PollOutcome.code) ++ o1 (x.identity.map Prod.fst) ++
    ((x.identity.map fun i => bytes32 i.2).getD (List.replicate 4 0#8)) ++ contentBytes now

/-! ## Status and attention -/

/-- The STATUS payload of PRESENCE on link `l` (R173). -/
def State.statusImage (s : State) (l : Link) : List Byte :=
  b1 s.stop.state.code ++ flags [s.stop.holdAll] ++ b1 (if s.stop.channelA then 0 else 1) ++
    b1 (if s.stop.channelB then 0 else 1) ++ flags [s.stop.mark] ++ b1 (s.link .dl0).presence.code ++
    b1 (s.link .dl1).presence.code ++ b1 (s.link .dl2).presence.code ++ b1 (s.link l).role.code

/-- One source of the READ ATTENTION payload: count, routing, enable (R186; log entry 18). -/
def AttentionRec.sourceBytes (a : AttentionRec) (n : Nat) : List Byte :=
  b1 (a.count n) ++ b1 ((a.routing[n]?.map Routing.code).getD 0) ++ b1 ((a.enabled[n]?.map onOffCode).getD 0)

/-- The payload of READ ATTENTION (R186). An output is a flag, 1 for asserted (log entries 18, 19). -/
def AttentionRec.image (a : AttentionRec) : List Byte :=
  sourceCodes.flatMap a.sourceBytes ++ flags [a.output .urgent] ++ flags [a.output .routine] ++ bytes16 a.sequence ++
    b1 a.mode.code

end Sys2Proof.Machine
end

