-- ==== Sys2Proof/Machine/AttentionRequests.lean ====
section
/-! DEFINITION. The Attention Unit's requests: CLEAR ATTENTION, CLEAR FAULTS, READ ATTENTION (R185, R186, R189). -/

namespace Sys2Proof.Machine

/-- The sources a CLEAR ATTENTION names. -/
def sourcesOf : ClearSel → List Nat
  | .all => sourceCodes
  | .named codes => codes

/-- The latch counts of the named sources become 0 (R185). -/
def AttentionRec.clear (a : AttentionRec) (codes : List Nat) : AttentionRec :=
  { a with counts := codes.foldl (fun v n => v.setIfInBounds n 0) a.counts }

/-- CLEAR ATTENTION taken (R185). -/
def serveClearAttention (q : ClearReq) (s : State) : State × Reply :=
  if q.expected.any fun e => decide (e ≠ s.attention.sequence.toNat) then (s, Reply.of .wrongState)
  else ({ s with attention := s.attention.clear (sourcesOf q.sel) }, Reply.of .done)

/-- CLEAR FAULTS taken (R189). -/
def serveClearFaults (n : Option Nat) (s : State) : State × Reply :=
  match n with
  | some k => (s.putFaultSummary k (s.faultSummary k).cleared, Reply.of .done)
  | none =>
    ({ s with attention := { s.attention with faults := s.attention.faults.map FaultSummary.cleared } }, Reply.of .done)

/-- READ ATTENTION taken (R186). -/
def serveReadAttention (s : State) : State × Reply := (s, Reply.done s.attention.image)

end Sys2Proof.Machine
end

