-- ==== Sys2Proof/Machine/BusRequests.lean ====
section
/-! DEFINITION. The fly bus controllers' requests (R113, R117, R118) and the events of breaks and loop tests (R110, R112, R114, R115). -/

namespace Sys2Proof.Machine

/-! ## Requests -/

/-- Some set on segment `f` belongs to a mover with a live claim (check 2 of R113). -/
def State.liveOn (s : State) (f : Segment) : Bool :=
  s.claims.any fun c => c.live && s.moverOn c.mover f

/-- A controller entering LOOP: the poll in progress abandoned, a TEST frame due for each configured station (R113, R114). -/
def Bus.startLoop (b : Bus) : Bus :=
  { b with
    state := .loop, poll := none, round := none
    loop := some { left := b.configured, passed := 0, failed := 0, lowestFailed := none } }

/-- LOOP TEST taken by the controller of segment code `k` (R113); its form check has found a segment. -/
def serveLoopTest (k : Nat) (s : State) : State × Reply :=
  match Segment.ofCode? k with
  | none => (s, Reply.of .malformed)
  | some f =>
    if (s.bus f).state ≠ .polling then (s, Reply.of .wrongState)
    else if s.liveOn f then (s, Reply.of .segmentBusy)
    else (s.updBus f Bus.startLoop, Reply.of .done)

/-- LOOKUP SEGMENT taken (R117). -/
def serveLookupSegment (k : Nat) (s : State) : State × Reply :=
  match Segment.ofCode? k with
  | none => (s, Reply.of .malformed)
  | some f => (s, Reply.done (s.bus f).image)

/-- LOOKUP STATION taken (R118). -/
def serveLookupStation (k a : Nat) (s : State) : State × Reply :=
  match Segment.ofCode? k with
  | none => (s, Reply.of .malformed)
  | some f => (s, Reply.done (s.stationImage ((s.bus f).station a)))

/-! ## Clearing the fresh flags of a segment -/

/-- The notice of the clearing of the fresh flag at address `a`; none where no set is configured there (R108). -/
def Bus.clearNotice (b : Bus) (a : Nat) : Option FreshNotice :=
  (b.station a).set.map fun n => { set := n, address := a, held := (b.station a).fresh }

/-- The notices of a clearing of every fresh flag of segment `f`: those of the stations whose set's mover has a live claim
(R108). -/
def State.clearNotices (s : State) (f : Segment) : List FreshNotice :=
  ((s.bus f).configured.filterMap (s.bus f).clearNotice).filter fun y => s.isLive y.set

/-- Every station of a segment has its miss count 0 and its fresh flag cleared, and the Travel Monitor is told for the
stations of live claims (R108, R112, R115). -/
def State.clearSegment (s : State) (f : Segment) : State :=
  s.updBus f fun b => { b.clearFresh with freshNotices := b.freshNotices ++ s.clearNotices f }

/-! ## Breaks -/

/-- A controller entering BROKEN: the poll in progress abandoned, the round ended (R110). -/
def Bus.enterBroken (b : Bus) : Bus := { b with state := .broken, poll := none, round := none }

/-- A break detected on segment `f` while it is POLLING (R110, R149). -/
def State.breakDetected (s : State) (f : Segment) : State :=
  if (s.bus f).state = .polling then
    let s1 := s.updBus f Bus.enterBroken
    let s2 := (s1.holdWhere (fun c => s1.moverOn c.mover f) fun r => r.putSegment f true).regroup
    latch (Source.ofBreak f) s2
  else s

/-- Break end on a BROKEN segment `f` (R112, R149). -/
def State.breakEnd (s : State) (f : Segment) : State :=
  if (s.bus f).state = .broken then
    let s1 := s.clearSegment f
    let s2 := if (s.bus f).configured = [] then s1.enterIdle f else s1.enterPolling f
    let s3 := (s2.mapClaims fun c => { c with reasons := c.reasons.convertSegment f }).settle
    passIf (decide ((s.bus f).configured ≠ [])) s3
  else s

/-! ## The loop test -/

/-- The frame for the next address of a loop test passes: every returned character equals the character sent (R114). -/
def LoopRun.passes (x : LoopRun) (a : Nat) (returned : List (Option LineChar)) : Bool :=
  decide (returned = (frameChars a (testContent a (x.passed + x.failed + 1)) false).map some)

/-- A loop test after the frame of address `a` (R114, R115). -/
def LoopRun.count (x : LoopRun) (a : Nat) (rest : List Nat) (ok : Bool) : LoopRun :=
  { left := rest
    passed := if ok then x.passed + 1 else x.passed
    failed := if ok then x.failed else x.failed + 1
    lowestFailed := if ok then x.lowestFailed else x.lowestFailed.or (some a) }

/-- The result of a loop test (R115). -/
def LoopRun.result (x : LoopRun) : LoopResult := { passed := x.passed, failed := x.failed, lowestFailed := x.lowestFailed }

/-- The end of a loop test (R115). -/
def State.loopEnd (s : State) (f : Segment) (x : LoopRun) : State :=
  let s1 := s.updBus f fun b => { b with loop := none, loopResult := some x.result }
  (latch .loopDone ((s1.clearSegment f).enterPolling f)).pass

/-- A TEST frame compared (R114); after the last one the test ends (R115). Only a segment in LOOP has one. -/
def State.testFrame (s : State) (f : Segment) (returned : List (Option LineChar)) : State :=
  match (s.bus f).loop with
  | none => s
  | some x =>
    match x.left with
    | [] => s
    | a :: rest =>
      let y := x.count a rest (x.passes a returned)
      if rest = [] then s.loopEnd f y else s.updBus f fun b => { b with loop := some y }

end Sys2Proof.Machine
end

