-- ==== Sys2Proof/Machine/ClaimRequests.lean ====
section
/-! DEFINITION. The requests on claims: CLAIM, RETARGET, RETIRE, HOLD CLAIM, RELEASE CLAIM, ADOPT, LOOKUP CLAIM, LIST CLAIMS (R44 to R54, R177), and WARM RESTART (R61). -/

namespace Sys2Proof.Machine

/-! ## CLAIM -/

/-- The first DARK or BARRED member from the lowest set number up (check 3 of R46). -/
def State.darkOrBarred (s : State) (ns : List Nat) : Option Result :=
  ns.findSome? fun n =>
    match (s.setRec n).state with
    | .dark => some .setDark
    | .barred => some .setBarred
    | .vacant => none
    | .resting => none
    | .engaged => none

/-- Checks 1 and 2 of R46: the mover exists, and a set named alone belongs to no bond. -/
def State.moverCheck (s : State) : Mover → Option Result
  | .bond b => if (s.bond? b).isNone then some .noSuch else none
  | .set n =>
    if (s.setRec n).setup.isNone then some .setVacant
    else if (s.setRec n).bond.isSome then some .bonded
    else none

/-- The lead's travel exceeds the lead's arrival tolerance (check 8 of R46, step 2 of R87). -/
def State.travels (s : State) (m : Mover) (target : Nat) : Bool := decide (s.leadTolerance m < s.leadTravel m target)

/-- Check 8 of R46, for the group number `g`. -/
def State.groupCheck (s : State) (l : Link) (q : ClaimReq) (g : Nat) : Option Result :=
  match s.group? g with
  | none => some .noSuch
  | some x =>
    if x.state ≠ .forming ∨ x.owner ≠ l ∨ x.cls ≠ q.cls ∨ q.kind ≠ .move ∨ q.waitLimit.isSome then some .groupMismatch
    else if !s.travels q.mover q.first then some .zeroTravel
    else none

/-- Checks 6 and 7 of R46, for a MOVE: the member targets within their trims, and the speed. -/
def State.moveCheck (s : State) (q : ClaimReq) : Option Result :=
  match q.kind with
  | .standby => none
  | .move =>
    if !s.targetsInTrims (targetsFrom (s.startsOf q.mover) q.first) then some .trim
    else if s.leastRated q.mover < q.second then some .speed
    else none

/-- Checks 4 and 5 of R46: the mover has no claim, and no member is on a segment in LOOP. -/
def State.freeCheck (s : State) (m : Mover) : Option Result :=
  if (s.claimOf m).isSome then some .engaged
  else if s.segmentsAny m (fun x => decide (x = .loop)) then some .segmentBusy
  else none

/-- The checks of R46 in order: the first failure refuses the request. -/
def State.claimCheck (s : State) (l : Link) (q : ClaimReq) : Option Result :=
  (s.moverCheck q.mover).or <| (s.darkOrBarred (s.members q.mover)).or <| (s.freeCheck q.mover).or <|
    (s.moveCheck q).or <| (q.group.bind (s.groupCheck l q)).or (if s.freeClaim.isNone then some .tableFull else none)

/-- The record a CLAIM makes, in WAITING (R30). -/
def claimRecord (q : ClaimReq) (l : Link) (n : Nat) : ClaimRec :=
  { number := n, owner := l, cls := q.cls, kind := q.kind, mover := q.mover, cueTag := q.cueTag
    target := match q.kind with
      | .move => some q.first
      | .standby => none
    memberTargets := []
    requestedSpeed := match q.kind with
      | .move => some q.second
      | .standby => none
    grantedSpeed := none
    reserves := match q.kind with
      | .move => none
      | .standby => some (q.first, q.second)
    starts := [], span := none, state := .waiting, reasons := Reasons.empty, taken := false, keep := q.keep
    waitAllowed := q.waitAllowed, waitLimit := q.waitLimit, deadline := q.deadline, late := false, group := q.group
    cause := none, waitTimer := none, sup := none }

/-- Case 1 of R47 applies: a MOVE with no group whose lead's travel does not exceed its tolerance. -/
def State.isNullMove (s : State) (q : ClaimReq) : Bool :=
  decide (q.kind = .move) && q.group.isNone && !s.travels q.mover q.first

/-- A full deadline, paused: the deadline timer of a null move with keep (R121). -/
def ClaimRec.pausedDeadline (c : ClaimRec) : DeadlineTimer :=
  match c.deadline with
  | some d => .paused (100 * d)
  | none => .absent

/-- The record of a null move with keep: ARRIVED at the rest positions (case 1 of R47). -/
def State.nullRecord (s : State) (c : ClaimRec) : ClaimRec :=
  let starts := s.startsOf c.mover
  { c with
    state := .arrived, starts := starts, memberTargets := targetsFrom starts (c.target.getD 0)
    grantedSpeed := c.requestedSpeed, span := s.arrivedSpan c.mover starts
    sup := some { members := s.openMembers c.mover starts, take := .stopped, stall := none, stopWindow := .stopped,
                  deadline := c.pausedDeadline } }

/-- A group that enters READY: its timer starts where a wait limit is present (R81, R85). -/
def GroupRec.enterReady (x : GroupRec) : GroupRec := { x with state := .ready, timer := x.waitLimit.map fun _ => 0 }

/-- A member joins a FORMING group; a group whose count is then reached enters READY (R81). -/
def GroupRec.join (x : GroupRec) (n : Nat) : GroupRec :=
  let y := { x with members := x.members ++ [n] }
  if y.members.length = y.expected then y.enterReady else y

/-- Case 2 of R47: the record made WAITING in group `g`, and a pass where the group became READY (R81). -/
def State.claimInGroup (s : State) (c : ClaimRec) (g : Nat) (x : GroupRec) : State :=
  let y := x.join c.number
  passIf (decide (y.state = .ready)) ((s.create c).putGroup g (some y))

/-- A claim recorded WAITING with its wait-limit timer started where a limit is given (case 4 of R47, R73). -/
def ClaimRec.startWait (c : ClaimRec) : ClaimRec := { c with waitTimer := c.waitLimit.map fun _ => 0 }

/-- Case 5 of R47: the refusal of a claim that cannot be granted and may not wait. -/
def State.claimRefusal (s : State) (c : ClaimRec) : Reply :=
  if s.stop.state ≠ .run then Reply.of .stopped
  else if s.stop.holdAll then Reply.of .holding
  else if s.segmentsAny c.mover (fun x => decide (x = .broken)) then Reply.of .segmentBusy
  else Reply.conflict ((s.planOf c c.speed).bind fun p => s.obstacle [c.mover] p.span)

/-- The outcome of a CLAIM that passes R46, by the cases of R47; `n` is the number its record takes. -/
def State.claimOutcome (s : State) (l : Link) (q : ClaimReq) (n : Nat) : State × Reply :=
  let c := claimRecord q l n
  if s.isNullMove q then
    if q.keep then ((s.create (s.nullRecord c)).engage c.mover, { result := .nullMove, payload := b1 n })
    else (s, Reply.of .nullMove)
  else
    match q.group.bind fun g => (s.group? g).map fun x => (g, x) with
    | some (g, x) => (s.claimInGroup c g x, { result := .queued, payload := b1 n })
    | none =>
      match s.grantPlan c c.speed with
      | some p => ((s.create c).grant c c.speed p, Reply.done (b1 n ++ o2 c.requestedSpeed))
      | none =>
        if q.waitAllowed then (s.create c.startWait, { result := .queued, payload := b1 n })
        else (s, s.claimRefusal c)

/-- CLAIM taken (R46, R47). -/
def serveClaim (l : Link) (q : ClaimReq) (s : State) : State × Reply :=
  match s.claimCheck l q with
  | some r => (s, Reply.of r)
  | none =>
    match s.freeClaim with
    | some n => s.claimOutcome l q n
    | none => (s, Reply.of .tableFull)

/-! ## Existence and ownership (R44) -/

/-- A request on claim `n`, refused with NO_SUCH where the number is not in use (check 3 of R44). -/
def State.onClaim (s : State) (n : Nat) (k : ClaimRec → State × Reply) : State × Reply :=
  match s.claim? n with
  | some c => k c
  | none => (s, Reply.of .noSuch)

/-- A request on claim `n` from its owner only (checks 3 and 4 of R44). -/
def State.onOwnClaim (s : State) (l : Link) (n : Nat) (k : ClaimRec → State × Reply) : State × Reply :=
  s.onClaim n fun c => if c.owner = l then k c else (s, Reply.of .notOwner)

/-! ## RETARGET -/

/-- Some member of the mover has no rest position. -/
def State.someUnplaced (s : State) (m : Mover) : Bool := (s.members m).any fun n => (s.setRec n).restPosition.isNone

/-- The lead has no rest position. -/
def State.leadUnplaced (s : State) (m : Mover) : Bool :=
  (s.lead m).any fun n => (s.setRec n).restPosition.isNone

/-- Check 2 of R48: the new target within the trims. -/
def State.retargetInTrims (s : State) (c : ClaimRec) (target : Nat) : Bool :=
  if c.state = .waiting then
    if s.someUnplaced c.mover then s.targetsInTrims (((s.lead c.mover).map fun n => (n, (target : Int))).toList)
    else s.targetsInTrims (targetsFrom (s.startsOf c.mover) target)
  else s.targetsInTrims (targetsFrom c.starts target)

/-- The states RETARGET is refused in (check 1 of R48). -/
def ClaimRec.retargetable (c : ClaimRec) : Bool :=
  decide (c.kind = .move) && (c.holdable || decide (c.state = .waiting) || decide (c.state = .arrived))

/-- Checks 1 to 4 of R48. -/
def State.retargetCheck (s : State) (c : ClaimRec) (q : RetargetReq) : Option Result :=
  if !c.retargetable then some .wrongState
  else if !s.retargetInTrims c q.target then some .trim
  else if q.speed.any (fun v => decide (s.leastRated c.mover < v)) then some .speed
  else if c.state = .waiting ∧ c.group.isSome ∧ ¬ s.leadUnplaced c.mover ∧ ¬ s.travels c.mover q.target then some .zeroTravel
  else none

/-- The supervision record after an accepted RETARGET of a live claim with the new member targets (R49, R125, R130, R140). -/
def ClaimRec.retargetedSup (c : ClaimRec) (targets : List (Nat × Int)) : Option Supervision :=
  c.sup.map fun x =>
    let y := x.setRefs targets
    if c.state = .held then y
    else { y.startTake with stall := none, deadline := y.deadline.resume }

/-- A live claim after an accepted RETARGET (R49). -/
def ClaimRec.retargeted (c : ClaimRec) (q : RetargetReq) (targets : List (Nat × Int)) (v : Nat) (span : Region) : ClaimRec :=
  { c with
    target := some q.target
    memberTargets := targets
    requestedSpeed := some (q.speed.getD (c.requestedSpeed.getD 0))
    grantedSpeed := some v
    span := some span
    taken := false
    state := if c.state = .held then .held else .granted
    sup := c.retargetedSup targets }

/-- The grant conditions an ARRIVED claim is checked for first (R49). -/
def State.arrivedCheck (s : State) (c : ClaimRec) : Option Result :=
  if c.state ≠ .arrived then none
  else if s.stop.state ≠ .run then some .stopped
  else if s.stop.holdAll then some .holding
  else if !s.segmentsAll c.mover (fun x => decide (x = .polling)) then some .segmentBusy
  else none

/-- The check of a new span against the old (R49): none where it may be taken, and otherwise the refusal. -/
def State.spanRefusal (s : State) (c : ClaimRec) (new old : Region) : Option Reply :=
  if new.within old then
    if c.state = .arrived then (s.columnMet c.mover new).map fun m => Reply.conflict (some (moverAsObstacle m .column))
    else none
  else (s.obstacle [c.mover] new).map fun o => Reply.conflict (some o)

/-- The acceptance of a RETARGET of a live claim (R49): the record, the re-test of COLUMN for a HELD claim that carries it
(R151), and a pass where the span is smaller in either range. -/
def State.acceptRetarget (s : State) (c : ClaimRec) (q : RetargetReq) (targets : List (Nat × Int)) (v : Nat) (new old : Region) :
    State :=
  let s1 := s.updClaim c.number fun x => x.retargeted q targets v new
  let s2 := if c.state = .held ∧ c.reasons.column then s1.reevalColumns else s1
  passIf (new.smaller old) s2

/-- RETARGET of a claim in GRANTED, MOVING, HELD or ARRIVED that passed R48 (R49). Such a claim holds a span and its mover
has configured sets, so the last two cases are not reached. -/
def State.retargetLive (s : State) (c : ClaimRec) (q : RetargetReq) : State × Reply :=
  let targets := targetsFrom c.starts q.target
  let v := q.speed.getD (c.grantedSpeed.getD 0)
  match s.arrivedCheck c with
  | some r => (s, Reply.of r)
  | none =>
    match s.sweptSpan v (s.lastPositions c.mover) targets, c.span with
    | some new, some old =>
      match s.spanRefusal c new old with
      | some r => (s, r)
      | none => (s.acceptRetarget c q targets v new old, Reply.of .done)
    | none, _ => (s, Reply.of .wrongState)
    | some _, none => (s, Reply.of .wrongState)

/-- RETARGET of a WAITING claim that passed R48: the target and speed replaced, and a pass. -/
def State.retargetWaiting (s : State) (c : ClaimRec) (q : RetargetReq) : State :=
  (s.updClaim c.number fun x =>
    { x with target := some q.target, requestedSpeed := some (q.speed.getD (x.requestedSpeed.getD 0)) }).pass

/-- RETARGET taken (R48, R49). -/
def serveRetarget (l : Link) (q : RetargetReq) (s : State) : State × Reply :=
  s.onOwnClaim l q.claim fun c =>
    match s.retargetCheck c q with
    | some r => (s, Reply.of r)
    | none => if c.state = .waiting then (s.retargetWaiting c q, Reply.of .done) else s.retargetLive c q

/-! ## RETIRE, HOLD CLAIM, RELEASE CLAIM -/

/-- A claim record entering RETIRING (R39). -/
def ClaimRec.retire (c : ClaimRec) : ClaimRec :=
  { c with state := .retiring, reasons := Reasons.empty, sup := c.sup.map Supervision.onRetiring }

/-- RETIRE taken (R50). -/
def serveRetire (l : Link) (n : Nat) (s : State) : State × Reply :=
  s.onOwnClaim l n fun c =>
    match c.state with
    | .waiting => ((s.removeWaiting c).groupDrop c, Reply.of .done)
    | .granted => ((s.updClaim n ClaimRec.retire).regroup, Reply.of .done)
    | .moving => ((s.updClaim n ClaimRec.retire).regroup, Reply.of .done)
    | .held => ((s.updClaim n ClaimRec.retire).regroup, Reply.of .done)
    | .arrived => ((s.removeLive c (.at (s.lastPositions c.mover))).pass, Reply.of .done)
    | .standing => ((s.removeLive c (.at (s.lastPositions c.mover))).pass, Reply.of .done)
    | .faulted => ((s.removeLive c .faulted).pass, Reply.of .done)
    | .retiring => (s, Reply.of .wrongState)

/-- HOLD CLAIM taken (R51). -/
def serveHoldClaim (n : Nat) (s : State) : State × Reply :=
  s.onClaim n fun c =>
    if c.holdable then ((s.updClaim n fun x => x.hold Reasons.addOperator).regroup, Reply.of .done)
    else (s, Reply.of .wrongState)

/-- A claim record that loses OPERATOR (R52). -/
def ClaimRec.release (c : ClaimRec) : ClaimRec := { c with reasons := { c.reasons with operator := false } }

/-- RELEASE CLAIM taken (R52). -/
def serveReleaseClaim (l : Link) (n : Nat) (s : State) : State × Reply :=
  s.onOwnClaim l n fun c =>
    if c.state = .held then ((s.updClaim n ClaimRec.release).settle, Reply.of .done)
    else if c.running then (s, Reply.of .done)
    else (s, Reply.of .wrongState)

/-! ## ADOPT -/

/-- A claim of `src` taken over by `l`, with DESK_LOST converted (R150, R177). -/
def ClaimRec.adopt (src l : Link) (c : ClaimRec) : ClaimRec :=
  if c.owner = src then { c with owner := l, reasons := c.reasons.convertDeskLost } else c

/-- A group of `src` taken over by `l` (R86). -/
def GroupRec.adopt (src l : Link) (x : GroupRec) : GroupRec := if x.owner = src then { x with owner := l } else x

/-- How many claims link `src` owns. -/
def State.claimsOf (s : State) (src : Link) : Nat := (s.claims.filter fun c => decide (c.owner = src)).length

/-- How many groups link `src` owns. -/
def State.groupsOf (s : State) (src : Link) : Nat :=
  ((Tab.numbers 24).filter fun g => (s.group? g).any fun x => decide (x.owner = src)).length

/-- The acceptance of an ADOPT (R177). -/
def State.transfer (s : State) (src l : Link) : State :=
  let s1 := s.mapClaims (ClaimRec.adopt src l)
  let s2 := { s1 with groups := s1.groups.map (Option.map (GroupRec.adopt src l)) }
  s2.settle.pass

/-- ADOPT taken (checks 3 and 4 of R177); its form check has found a link. -/
def serveAdopt (l : Link) (source : Nat) (s : State) : State × Reply :=
  match Link.ofCode? source with
  | none => (s, Reply.of .malformed)
  | some src =>
    if src = l then (s, Reply.of .notPermitted)
    else if (s.link src).presence ≠ .lost then (s, Reply.of .deskPresent)
    else (s.transfer src l, Reply.done (be16 (s.claimsOf src) ++ be16 (s.groupsOf src)))

/-! ## Lookups -/

/-- LOOKUP CLAIM taken (R53). -/
def serveLookupClaim (n : Nat) (s : State) : State × Reply :=
  s.onClaim n fun c => (s, Reply.done (s.claimImage c))

/-- LIST CLAIMS taken (R54). -/
def serveListClaims (q : ListReq) (s : State) : State × Reply := (s, Reply.done (s.listImage q))

/-! ## WARM RESTART -/

/-- A claim that WARM RESTART is refused for (R61). -/
def ClaimRec.busy (c : ClaimRec) : Bool := c.holdable || decide (c.state = .retiring)

/-- A set record after warm restart (R28). -/
def SetRec.warm (r : SetRec) : SetRec :=
  match r.state with
  | .resting => { r with state := .dark, identityVerified := false, restPosition := none, claim := none }
  | .engaged => { r with state := .dark, identityVerified := false, restPosition := none, claim := none }
  | .dark => { r with claim := none }
  | .barred => { r with claim := none }
  | .vacant => { r with claim := none }

/-- Warm restart of every block (R28, R61, R66, R94, R119, R145, R163). -/
def State.warm (s : State) : State :=
  { s with
    sets := s.sets.map SetRec.warm
    bonds := s.bonds.map fun x => x.map fun r => { r with claim := none }
    claims := []
    pointer := .dl0
    served := 0
    groups := Vector.replicate 24 none
    buses := { fb0 := s.buses.fb0.clearFresh, fb1 := s.buses.fb1.clearFresh }
    stop := { s.stop with holdAll := false } }

/-- WARM RESTART taken (R61). -/
def serveWarmRestart (s : State) : State × Reply :=
  if s.claims.any ClaimRec.busy then (s, Reply.of .busy) else (s.warm, Reply.of .done)

end Sys2Proof.Machine
end

