-- ==== Sys2Proof/Machine/GroupRequests.lean ====
section
/-! DEFINITION. The group requests: OPEN GROUP, CLOSE GROUP, CANCEL GROUP, LOOKUP GROUP (R79 to R83, R93). -/

namespace Sys2Proof.Machine

/-- The record OPEN GROUP writes, in FORMING (R80). -/
def groupRecord (q : OpenGroupReq) (l : Link) : GroupRec :=
  { owner := l, cls := q.cls, sync := q.sync, expected := q.expected, members := [], waitLimit := q.waitLimit
    state := .forming, timer := none }

/-- OPEN GROUP taken (R80). -/
def serveOpenGroup (l : Link) (q : OpenGroupReq) (s : State) : State × Reply :=
  match Tab.firstFree s.groups with
  | none => (s, Reply.of .tableFull)
  | some g => (s.putGroup g (some (groupRecord q l)), Reply.done (b1 g))

/-- A request on group `g`, refused with NO_SUCH where the number is free (check 3 of R79). -/
def State.onGroup (s : State) (g : Nat) (k : GroupRec → State × Reply) : State × Reply :=
  match s.group? g with
  | some x => k x
  | none => (s, Reply.of .noSuch)

/-- A request on group `g` from its owner only (checks 3 and 4 of R79). -/
def State.onOwnGroup (s : State) (l : Link) (g : Nat) (k : GroupRec → State × Reply) : State × Reply :=
  s.onGroup g fun x => if x.owner = l then k x else (s, Reply.of .notOwner)

/-- CLOSE GROUP taken (R82). -/
def serveCloseGroup (l : Link) (g : Nat) (s : State) : State × Reply :=
  s.onOwnGroup l g fun x =>
    if x.state ≠ .forming ∨ x.members.length < 2 then (s, Reply.of .wrongState)
    else
      ((s.putGroup g (some (GroupRec.enterReady { x with expected := x.members.length }))).pass, Reply.of .done)

/-- CANCEL GROUP taken (R83). -/
def serveCancelGroup (l : Link) (g : Nat) (s : State) : State × Reply :=
  s.onOwnGroup l g fun x =>
    if x.state = .granted then (s, Reply.of .wrongState) else (s.dissolveGroup g x, Reply.of .done)

/-- LOOKUP GROUP taken (R93). -/
def serveLookupGroup (g : Nat) (s : State) : State × Reply :=
  s.onGroup g fun x => (s, Reply.done (s.groupImage g x))

end Sys2Proof.Machine
end

