-- ==== Sys2Proof/Machine/KeepoutRequests.lean ====
section
/-! DEFINITION. The requests on keep-outs: ADD KEEPOUT, RETIRE KEEPOUT, LOOKUP KEEPOUT (R55 to R58). -/

namespace Sys2Proof.Machine

/-- The region of an ADD KEEPOUT, as entered (R55). -/
def keepoutRegion (q : KeepoutReq) : Region :=
  { depthLo := q.depthLo, depthHi := q.depthHi, heightLo := q.heightLo, heightHi := q.heightHi }

/-- Keep-out record `n` replaced. -/
def State.putKeepout (s : State) (n : Nat) (x : Option Keepout) : State := { s with keepouts := Tab.put s.keepouts n x }

/-- Keep-out `n` where it is in use. -/
def State.keepout? (s : State) (n : Nat) : Option Keepout := Tab.record? s.keepouts n

/-- ADD KEEPOUT taken (R56). -/
def serveAddKeepout (q : KeepoutReq) (s : State) : State × Reply :=
  match s.obstacle [] (keepoutRegion q) with
  | some o => (s, Reply.conflict (some o))
  | none =>
    match Tab.firstFree s.keepouts with
    | none => (s, Reply.of .tableFull)
    | some n => (s.putKeepout n (some { region := keepoutRegion q, tag := q.tag }), Reply.done (b1 n))

/-- RETIRE KEEPOUT taken (R57). -/
def serveRetireKeepout (n : Nat) (s : State) : State × Reply :=
  match s.keepout? n with
  | none => (s, Reply.of .noSuch)
  | some _ => ((s.putKeepout n none).pass, Reply.of .done)

/-- LOOKUP KEEPOUT taken (R58). -/
def serveLookupKeepout (n : Nat) (s : State) : State × Reply :=
  match s.keepout? n with
  | none => (s, Reply.of .noSuch)
  | some k => (s, Reply.done k.image)

end Sys2Proof.Machine
end

