-- ==== Sys2Proof/Machine/Operands.lean ====
section
/-! DEFINITION. The operands of a request: its kind and payload read into fields (R191 to R193; log entries 16, 18, 19), and the form check of each request (R16, R44, R45, R79, R178). -/

namespace Sys2Proof.Machine

/-! ## Reading a payload -/

/-- The number two bytes spell, most significant first (R191). -/
def num16 (hi lo : Byte) : Nat := (word16 hi lo).toNat

/-- The signed number two bytes spell (R191). -/
def int16 (hi lo : Byte) : Int := (word16 hi lo).toInt

/-- An optional field: present where its presence bit is 1 (R191). -/
def optField (presence : Byte) (bit : Nat) (x : Nat) : Option Nat := if presence.getLsbD bit then some x else none

/-- No bit at or above `n` is 1: the unassigned bits of a presence or flags byte are 0 (R191). -/
def onlyBits (n : Nat) (b : Byte) : Bool := decide (b.toNat < 2 ^ n)

/-- A choice between two values (R191). -/
def twoWay {α : Type} (x y : α) (b : Byte) : Option α :=
  if b = 0#8 then some x else if b = 1#8 then some y else none

/-- A CLAIM body after its tag (R193). -/
def readClaim : List Byte → Option Request
  | [flags, pres, mover, cue1, cue0, a1, a0, b1, b0, w1, w0, grp, d1, d0] =>
    if onlyBits 5 flags && onlyBits 4 pres then
      some (.claim
        { kind := if flags.getLsbD 0 then .standby else .move
          cls := if flags.getLsbD 1 then .forWork else .forShow
          mover := if flags.getLsbD 2 then .bond mover.toNat else .set mover.toNat
          waitAllowed := flags.getLsbD 3
          keep := flags.getLsbD 4
          cueTag := optField pres 0 (num16 cue1 cue0)
          first := num16 a1 a0
          second := num16 b1 b0
          waitLimit := optField pres 1 (num16 w1 w0)
          group := optField pres 2 grp.toNat
          deadline := optField pres 3 (num16 d1 d0) })
    else none
  | _ => none

/-- A RETARGET body: presence, claim, target, new speed (R48, R191). -/
def readRetarget : List Byte → Option Request
  | [pres, c, t1, t0, v1, v0] =>
    if onlyBits 1 pres then
      some (.retarget { claim := c.toNat, target := num16 t1 t0, speed := optField pres 0 (num16 v1 v0) })
    else none
  | _ => none

/-- An ADD KEEPOUT body: presence, four bounds, tag (R56, R191). -/
def readKeepout : List Byte → Option Request
  | [pres, a1, a0, b1, b0, c1, c0, d1, d0, t1, t0] =>
    if onlyBits 1 pres then
      some (.addKeepout
        { depthLo := int16 a1 a0, depthHi := int16 b1 b0, heightLo := int16 c1 c0, heightHi := int16 d1 d0,
          tag := optField pres 0 (num16 t1 t0) })
    else none
  | _ => none

/-- A LIST CLAIMS body: presence, start, owner (R54, R191). -/
def readList : List Byte → Option Request
  | [pres, start, owner] =>
    if onlyBits 1 pres then some (.listClaims { start := start.toNat, owner := optField pres 0 owner.toNat }) else none
  | _ => none

/-- An OPEN GROUP body: presence, class, SYNC, expected count, wait limit (R80, R191). SYNC is a flag, 1 for set (log entry
19). -/
def readOpenGroup : List Byte → Option Request
  | [pres, cls, sync, e1, e0, w1, w0] =>
    match onlyBits 1 pres, twoWay ClaimClass.forShow .forWork cls, twoWay false true sync with
    | true, some k, some y =>
      some (.openGroup { cls := k, sync := y, expected := num16 e1 e0, waitLimit := optField pres 0 (num16 w1 w0) })
    | _, _, _ => none
  | _ => none

/-- The fields of a CONFIGURE SET body from the top extent on (R5, R17). -/
def readConfigureHang (q : ConfigureReq) (pres : Byte) : List Byte → Option Request
  | [t1, t0, d1, d0, f1, f0, a1, a0, w1, w0, m1, m0, x1, x0] =>
    some (.configureSet { q with
      top := num16 t1 t0, drop := num16 d1 d0, fore := num16 f1 f0, aft := num16 a1 a0
      sway := optField pres 4 (num16 w1 w0), loadMin := num16 m1 m0, loadMax := num16 x1 x0 })
  | _ => none

/-- A CONFIGURE SET body: presence, set, then the fields in the order of R5. -/
def readConfigure : List Byte → Option Request
  | pres :: set :: seg :: a1 :: a0 :: d1 :: d0 :: l1 :: l0 :: u1 :: u0 :: r1 :: r0 :: mode :: k1 :: k0 :: f1 :: f0
      :: t1 :: t0 :: w1 :: w0 :: rest =>
    match onlyBits 5 pres, twoWay Segment.fb0 .fb1 seg, twoWay StopMode.auto .fixed mode with
    | true, some sg, some md =>
      readConfigureHang
        { set := set.toNat, segment := sg, address := num16 a1 a0, depth := num16 d1 d0, lower := num16 l1 l0
          upper := num16 u1 u0, rated := num16 r1 r0, stopMode := md, stopConstant := optField pres 0 (num16 k1 k0)
          fixedAllowance := optField pres 1 (num16 f1 f0), arrivalTol := optField pres 2 (num16 t1 t0)
          stallWindow := optField pres 3 (num16 w1 w0), top := 0, drop := 0, fore := 0, aft := 0, sway := none
          loadMin := 0, loadMax := 0 }
        pres rest
    | _, _, _ => none
  | _ => none

/-- A REHANG body: set, then the seven quantities of the hang (R5, R19). -/
def readRehang : List Byte → Option Request
  | [set, t1, t0, d1, d0, f1, f0, a1, a0, w1, w0, m1, m0, x1, x0] =>
    some (.rehang
      { set := set.toNat
        hang := { top := num16 t1 t0, drop := num16 d1 d0, fore := num16 f1 f0, aft := num16 a1 a0
                  sway := num16 w1 w0, loadMin := num16 m1 m0, loadMax := num16 x1 x0 } })
  | _ => none

/-- A body naming one set or all sets: presence and set (R20, R189). -/
def readOneOrAll (k : Option Nat → Request) : List Byte → Option Request
  | [pres, set] => if onlyBits 1 pres then some (k (optField pres 0 set.toNat)) else none
  | _ => none

/-- A BIND body: presence, the set numbers, skew tolerance (R22). The number of sets follows from the length. -/
def readBind : List Byte → Option Request
  | [] => none
  | pres :: rest =>
    if onlyBits 1 pres && decide (2 ≤ rest.length) then
      some (.bind
        { sets := (rest.take (rest.length - 2)).map BitVec.toNat
          skew := optField pres 0 (num16 (rest.getD (rest.length - 2) 0) (rest.getD (rest.length - 1) 0)) })
    else none

/-- The source codes named by a three-byte source field laid out as that of a response header (R192). -/
def sourcesNamed (b2 b1 b0 : Byte) : List Nat := (List.range 20).filter fun n => (b2 ++ b1 ++ b0).getLsbD n

/-- A CLEAR ATTENTION body: presence, ALL or a list, the list as a source field, the expected sequence number (R185). -/
def readClearAttention : List Byte → Option Request
  | [pres, sel, b2, b1, b0, q1, q0] =>
    match onlyBits 1 pres && onlyBits 4 b2, twoWay ClearSel.all (.named (sourcesNamed b2 b1 b0)) sel with
    | true, some x => some (.clearAttention { sel := x, expected := optField pres 0 (num16 q1 q0) })
    | _, _ => none
  | _ => none

/-- A SET PARAMETER body: presence, name, instance, value; the value of a parameter that is a choice takes one byte (R178,
R191). -/
def readSetParameter : List Byte → Option Request
  | [pres, name, which, v1, v0] =>
    if onlyBits 1 pres && decide (name.toNat < 8) then
      some (.setParameter { name := name.toNat, which := optField pres 0 which.toNat } (num16 v1 v0))
    else none
  | [pres, name, which, v] =>
    if onlyBits 1 pres && decide (8 ≤ name.toNat) then
      some (.setParameter { name := name.toNat, which := optField pres 0 which.toNat } v.toNat)
    else none
  | _ => none

/-- A READ PARAMETER body: presence, name, instance (R178). -/
def readReadParameter : List Byte → Option Request
  | [pres, name, which] =>
    if onlyBits 1 pres then some (.readParameter { name := name.toNat, which := optField pres 0 which.toNat }) else none
  | _ => none

/-- A body without fields. -/
def readNone (r : Request) : List Byte → Option Request
  | [] => some r
  | _ => none

/-- A body of one number or choice in one byte. -/
def readOne (k : Nat → Request) : List Byte → Option Request
  | [n] => some (k n.toNat)
  | _ => none

/-- A LOOKUP STATION body: segment, address (R118). -/
def readLookupStation : List Byte → Option Request
  | [f, a1, a0] => some (.lookupStation f.toNat (num16 a1 a0))
  | _ => none

/-- The request that a kind and a body spell (the body is the payload after its tag): none where the body does not have the
layout of the kind. The kinds are those of R192; the caller has found that the kind names a request. That bytes beyond the fields
of a kind make it MALFORMED is stated for CLAIM (R193), PRESENCE (R173), ADOPT (R177), READ ATTENTION (R186) and the four requests
of R158, and is the model's choice for every other kind (log entry 16). -/
def readRequest (kind : Nat) (body : List Byte) : Option Request :=
  match kind with
  | 1 => readNone .presence body
  | 2 => readNone .stop body
  | 3 => readNone .holdAll body
  | 4 => readOne .holdClaim body
  | 16 => readNone .releaseAll body
  | 17 => readNone .resume body
  | 18 => readClaim body
  | 19 => readRetarget body
  | 20 => readOne .retire body
  | 21 => readOne .releaseClaim body
  | 22 => readKeepout body
  | 23 => readOne .retireKeepout body
  | 24 => readNone .warmRestart body
  | 25 => readOne .adopt body
  | 26 => readOne .lookupClaim body
  | 27 => readList body
  | 28 => readOne .lookupKeepout body
  | 29 => readOpenGroup body
  | 30 => readOne .closeGroup body
  | 31 => readOne .cancelGroup body
  | 32 => readOne .lookupGroup body
  | 33 => readConfigure body
  | 34 => readOne .releaseSet body
  | 35 => readRehang body
  | 36 => readOneOrAll .lockHang body
  | 37 => readOneOrAll .unlockHang body
  | 38 => readOne .reinstate body
  | 39 => readBind body
  | 40 => readOne .unbind body
  | 41 => readOne .lookupSet body
  | 42 => readOne .lookupBond body
  | 43 => readNone .readDigest body
  | 44 => readOne .loopTest body
  | 45 => readOne .lookupSegment body
  | 46 => readLookupStation body
  | 47 => readClearAttention body
  | 48 => readOneOrAll .clearFaults body
  | 49 => readNone .readAttention body
  | 50 => readSetParameter body
  | 51 => readReadParameter body
  | _ => none

/-- The kind of a request (R192). -/
def kindOf : Request → Nat
  | .presence => 1
  | .stop => 2
  | .holdAll => 3
  | .holdClaim _ => 4
  | .releaseAll => 16
  | .resume => 17
  | .claim _ => 18
  | .retarget _ => 19
  | .retire _ => 20
  | .releaseClaim _ => 21
  | .addKeepout _ => 22
  | .retireKeepout _ => 23
  | .warmRestart => 24
  | .adopt _ => 25
  | .lookupClaim _ => 26
  | .listClaims _ => 27
  | .lookupKeepout _ => 28
  | .openGroup _ => 29
  | .closeGroup _ => 30
  | .cancelGroup _ => 31
  | .lookupGroup _ => 32
  | .configureSet _ => 33
  | .releaseSet _ => 34
  | .rehang _ => 35
  | .lockHang _ => 36
  | .unlockHang _ => 37
  | .reinstate _ => 38
  | .bind _ => 39
  | .unbind _ => 40
  | .lookupSet _ => 41
  | .lookupBond _ => 42
  | .readDigest => 43
  | .loopTest _ => 44
  | .lookupSegment _ => 45
  | .lookupStation _ _ => 46
  | .clearAttention _ => 47
  | .clearFaults _ => 48
  | .readAttention => 49
  | .setParameter _ _ => 50
  | .readParameter _ => 51

/-- The kinds STOP, HOLD ALL, HOLD CLAIM and PRESENCE are the priority kinds; every other kind is regular (R165). -/
def priorityKind (k : Byte) : Bool := decide (1 ≤ k.toNat) && decide (k.toNat ≤ 4)

/-- The kinds that name a request (R192). -/
def namesRequest (k : Byte) : Bool := priorityKind k || (decide (16 ≤ k.toNat) && decide (k.toNat ≤ 51))

/-! ## Parameters (R178) -/

/-- A parameter with its instance. -/
inductive Param
  | clearance
  | nearFull
  | weight (l : Link)
  | pointer
  | served
  | drift
  | idleSlice (f : Segment)
  | window (l : Link)
  | mode
  | routing (n : Nat)
  | enable (n : Nat)
  deriving DecidableEq, Repr

/-- A parameter without instances, named without an instance. -/
def alone (which : Option Nat) (p : Param) : Option Param := if which.isNone then some p else none

/-- A source code, 0 to 19. -/
def sourceCode? (n : Nat) : Option Nat := if n < 20 then some n else none

/-- The parameter a name and an instance give, where the name is one of the table and the instance is as it asks (check 2 of
R178). The names are coded in the order of the table from 0, the instances in the order of their lists (R191). -/
def resolveParam (p : ParamName) : Option Param :=
  match p.name with
  | 0 => alone p.which .clearance
  | 1 => alone p.which .nearFull
  | 2 => (p.which.bind Link.ofCode?).map .weight
  | 3 => alone p.which .pointer
  | 4 => alone p.which .served
  | 5 => alone p.which .drift
  | 6 => (p.which.bind Segment.ofCode?).map .idleSlice
  | 7 => (p.which.bind Link.ofCode?).map .window
  | 8 => alone p.which .mode
  | 9 => (p.which.bind sourceCode?).map .routing
  | 10 => (p.which.bind sourceCode?).map .enable
  | _ => none

/-- `lo ≤ x ≤ hi`. -/
def between (lo hi x : Nat) : Bool := decide (lo ≤ x) && decide (x ≤ hi)

/-- The value lies in the range of the table, and the parameter is not read-only (check 2 of R178). LATEST and
ACCUMULATED, URGENT and ROUTINE, on and off are coded 0 and 1 (R191). -/
def valueOk (p : Param) (v : Nat) : Bool :=
  match p with
  | .clearance => between 0 1000 v
  | .nearFull => between 1 160 v
  | .weight _ => between 1 8 v
  | .pointer => false
  | .served => false
  | .drift => between 5 100 v
  | .idleSlice _ => between 1 16 v
  | .window _ => between 100 1000 v
  | .mode => between 0 1 v
  | .routing _ => between 0 1 v
  | .enable _ => between 0 1 v

/-! ## The form check of each request -/

/-- An optional field lies in its range where it is present. -/
def optBetween (lo hi : Nat) (x : Option Nat) : Bool := x.all (between lo hi)

/-- A mover's number lies in its table (R30). -/
def moverOk : Mover → Bool
  | .set n => between 1 128 n
  | .bond n => between 1 16 n

/-- The form of a CLAIM (R30, R45). -/
def claimOk (q : ClaimReq) : Bool :=
  moverOk q.mover && optBetween 1 65535 q.cueTag && optBetween 1 600 q.waitLimit && optBetween 1 24 q.group &&
    optBetween 1 6000 q.deadline && (q.waitLimit.isNone || q.waitAllowed) &&
    match q.kind with
    | .move => between 0 30000 q.first && between 1 2000 q.second
    | .standby => between 0 5000 q.first && between 0 5000 q.second && !q.keep && q.deadline.isNone

/-- A signed bound of a keep-out (R55). -/
def boundOk (i : Int) : Bool := decide (-32768 ≤ i) && decide (i ≤ 32767)

/-- The form of an ADD KEEPOUT (R55, R56). -/
def keepoutOk (q : KeepoutReq) : Bool :=
  boundOk q.depthLo && boundOk q.depthHi && boundOk q.heightLo && boundOk q.heightHi && optBetween 1 65535 q.tag &&
    decide (q.depthLo ≤ q.depthHi) && decide (q.heightLo ≤ q.heightHi)

/-- The form of a hang (R5). -/
def hangOk (top drop fore aft sway loadMin loadMax : Nat) : Bool :=
  between 0 10000 top && between 0 10000 drop && between 0 10000 fore && between 0 10000 aft && between 0 500 sway &&
    between 0 4000 loadMin && between 0 4000 loadMax && decide (loadMin ≤ loadMax)

/-- The fixed allowance is present in FIXED mode and absent in AUTO mode, and in its range (R2, R17). -/
def allowanceOk : StopMode → Option Nat → Bool
  | .auto, x => x.isNone
  | .fixed, x => x.any (between 0 2000)

/-- The form of a CONFIGURE SET (R5, R17). -/
def configureOk (q : ConfigureReq) : Bool :=
  between 1 128 q.set && between 1 64 q.address && between 0 24000 q.depth && between 0 30000 q.lower &&
    between 0 30000 q.upper && decide (q.lower < q.upper) && between 1 2000 q.rated &&
    optBetween 100 2000 q.stopConstant && allowanceOk q.stopMode q.fixedAllowance && optBetween 2 50 q.arrivalTol &&
    optBetween 500 10000 q.stallWindow &&
    hangOk q.top q.drop q.fore q.aft (q.sway.getD Config.defaultSway) q.loadMin q.loadMax

/-- The form of a BIND: 2 to 4 distinct set numbers (R22) and a skew tolerance in its range (R15). -/
def bindOk (q : BindReq) : Bool :=
  between 2 4 q.sets.length && q.sets.all (between 1 128) && decide q.sets.Nodup && optBetween 5 200 q.skew

/-- The form check of a request (R16, R44, R45, R79, R113, R177, R178); a request that fails it is MALFORMED. -/
def formOk : Request → Bool
  | .presence => true
  | .stop => true
  | .holdAll => true
  | .holdClaim n => between 1 160 n
  | .releaseAll => true
  | .resume => true
  | .claim q => claimOk q
  | .retarget q => between 1 160 q.claim && between 0 30000 q.target && optBetween 1 2000 q.speed
  | .retire n => between 1 160 n
  | .releaseClaim n => between 1 160 n
  | .addKeepout q => keepoutOk q
  | .retireKeepout n => between 1 16 n
  | .warmRestart => true
  | .adopt n => (Link.ofCode? n).isSome
  | .lookupClaim n => between 1 160 n
  | .listClaims q => between 1 160 q.start && optBetween 0 2 q.owner
  | .lookupKeepout n => between 1 16 n
  | .openGroup q => between 2 12 q.expected && optBetween 1 600 q.waitLimit
  | .closeGroup n => between 1 24 n
  | .cancelGroup n => between 1 24 n
  | .lookupGroup n => between 1 24 n
  | .configureSet q => configureOk q
  | .releaseSet n => between 1 128 n
  | .rehang q =>
    between 1 128 q.set && hangOk q.hang.top q.hang.drop q.hang.fore q.hang.aft q.hang.sway q.hang.loadMin q.hang.loadMax
  | .lockHang n => optBetween 1 128 n
  | .unlockHang n => optBetween 1 128 n
  | .reinstate n => between 1 128 n
  | .bind q => bindOk q
  | .unbind n => between 1 16 n
  | .lookupSet n => between 1 128 n
  | .lookupBond n => between 1 16 n
  | .readDigest => true
  | .loopTest f => (Segment.ofCode? f).isSome
  | .lookupSegment f => (Segment.ofCode? f).isSome
  | .lookupStation f a => (Segment.ofCode? f).isSome && between 1 64 a
  | .clearAttention q =>
    match q.sel with
    | .all => optBetween 0 65535 q.expected
    | .named codes => !codes.isEmpty && codes.all (between 0 19) && optBetween 0 65535 q.expected
  | .clearFaults n => optBetween 1 128 n
  | .readAttention => true
  | .setParameter p v => (resolveParam p).any fun x => valueOk x v
  | .readParameter p => (resolveParam p).isSome

end Sys2Proof.Machine
end

