-- ==== Sys2Proof/Machine/ParameterRequests.lean ====
section
/-! DEFINITION. SET PARAMETER and READ PARAMETER (R178), with the condition on the vertical clearance (R59). -/

namespace Sys2Proof.Machine

/-- The movers whose sets are all RESTING. -/
def State.restingMovers (s : State) : List Mover := s.movers.filter s.allResting

/-- Two resting movers' regions conflict. -/
def State.moversMeet (s : State) (m k : Mover) : Bool :=
  decide (m ≠ k) && (s.restingRegion m).any fun r => (s.restingRegion k).any r.conflicts

/-- A resting mover's region meets another's, or a keep-out. -/
def State.restsBadly (s : State) (m : Mover) : Bool :=
  s.restingMovers.any (s.moversMeet m) ||
    (s.restingRegion m).any fun r => (Tab.numbers 16).any fun n => (s.keepoutObstacle r n).isSome

/-- The obstacle a new clearance is refused with: the mover with the lowest set number whose new region meets another
committed region (check 2 of R59). -/
def State.clearanceObstacle (s : State) (v : Nat) : Option Obstacle :=
  let t := { s with clearance := v }
  (t.restingMovers.find? t.restsBadly).map fun m => moverAsObstacle m .region

/-- SET PARAMETER of the vertical clearance (R59). -/
def setClearance (v : Nat) (s : State) : State × Reply :=
  if !s.claims.isEmpty then (s, Reply.of .busy)
  else
    match s.clearanceObstacle v with
    | some o => (s, Reply.conflict (some o))
    | none => ({ s with clearance := v }, Reply.of .done)

/-- The Attention Unit changed. -/
def State.updAttention (s : State) (g : AttentionRec → AttentionRec) : State := { s with attention := g s.attention }

/-- The summary mode of a code (R188, R191). -/
def modeOf (v : Nat) : SummaryMode := if v = 0 then .latest else .accumulated

/-- The routing of a code (R182, R191). -/
def routingOf (v : Nat) : Routing := if v = 0 then .urgent else .routine

/-- The owner takes a SET PARAMETER whose form is good; a read-only parameter has been refused before (R178). -/
def applyParam (p : Param) (v : Nat) (s : State) : State × Reply :=
  match p with
  | .clearance => setClearance v s
  | .nearFull => ({ s with nearFull := v }, Reply.of .done)
  | .weight l => ({ s with weights := s.weights.put l v }, Reply.of .done)
  | .pointer => (s, Reply.of .malformed)
  | .served => (s, Reply.of .malformed)
  | .drift => ({ s with driftTolerance := v }, Reply.of .done)
  | .idleSlice f => (s.updBus f fun b => { b with idleSlice := v }, Reply.of .done)
  | .window l => (s.updLink l fun x => { x with window := v }, Reply.of .done)
  | .mode => (s.updAttention fun a => { a with mode := modeOf v }, Reply.of .done)
  | .routing n => (s.updAttention fun a => { a with routing := a.routing.setIfInBounds n (routingOf v) }, Reply.of .done)
  | .enable n => (s.updAttention fun a => { a with enabled := a.enabled.setIfInBounds n (decide (v = 0)) }, Reply.of .done)

/-- SET PARAMETER taken (R178). -/
def serveSetParameter (p : ParamName) (v : Nat) (s : State) : State × Reply :=
  match resolveParam p with
  | none => (s, Reply.of .malformed)
  | some x => applyParam x v s

/-- The value of a parameter as READ PARAMETER sends it: two bytes, or one for a choice (R178, R191). -/
def State.paramBytes (s : State) (p : Param) : List Byte :=
  match p with
  | .clearance => be16 s.clearance
  | .nearFull => be16 s.nearFull
  | .weight l => be16 (s.weights.get l)
  | .pointer => b1 s.pointer.code
  | .served => be16 s.served
  | .drift => be16 s.driftTolerance
  | .idleSlice f => be16 (s.bus f).idleSlice
  | .window l => be16 (s.link l).window
  | .mode => b1 s.attention.mode.code
  | .routing n => b1 ((s.attention.routing[n]?.map Routing.code).getD 0)
  | .enable n => b1 ((s.attention.enabled[n]?.map onOffCode).getD 0)

/-- READ PARAMETER taken (R178). -/
def serveReadParameter (p : ParamName) (s : State) : State × Reply :=
  match resolveParam p with
  | none => (s, Reply.of .malformed)
  | some x => (s, Reply.done (s.paramBytes x))

end Sys2Proof.Machine
end

