-- ==== Sys2Proof/Machine/StopRequests.lean ====
section
/-! DEFINITION. The stop state (R153, R156, R157) and the requests STOP, HOLD ALL, RELEASE ALL and RESUME (R158 to R162). -/

namespace Sys2Proof.Machine

/-- The Stop Controller's record changed. -/
def State.updStop (s : State) (g : StopRec → StopRec) : State := { s with stop := g s.stop }

/-- The WAITING claims, in creation order. -/
def State.waitingClaims (s : State) : List ClaimRec := s.claims.filter fun c => decide (c.state = .waiting)

/-- The groups in FORMING or READY, in ascending number. -/
def State.openGroups (s : State) : List Nat :=
  (Tab.numbers 24).filter fun g => (s.group? g).any fun x => decide (x.state ≠ .granted)

/-- Every WAITING claim removed, every FORMING and READY group freed, and WAIT_CANCELLED latched where there was one (R75,
R86). -/
def State.cancelWaits (s : State) : State :=
  let s1 := s.waitingClaims.foldl State.removeWaiting s
  let s2 := s.openGroups.foldl (fun t g => t.putGroup g none) s1
  latchIf (!s.waitingClaims.isEmpty || !s.openGroups.isEmpty) .waitCancelled s2

/-- The entry to STOPPED: steps 1 to 5 of R156. -/
def State.enterStopped (s : State) : State :=
  let s1 := s.updStop fun x => { x with state := .stopped }
  let s2 := s1.holdWhere (fun _ => true) Reasons.addEstop
  latch .stop s2.cancelWaits.regroup

/-- The entry to LATCHED (R157). -/
def State.enterLatched (s : State) : State := s.updStop fun x => { x with state := .latched }

/-- Both channels are INACTIVE. -/
def StopRec.clear (x : StopRec) : Bool := !x.channelA && !x.channelB

/-- STOP taken (R159). -/
def serveStop (s : State) : State × Reply :=
  if s.stop.state = .stopped then (s, Reply.of .done)
  else
    let s1 := s.enterStopped
    (if s1.stop.clear then s1.enterLatched else s1, Reply.of .done)

/-- HOLD ALL taken (R160). -/
def serveHoldAll (s : State) : State × Reply :=
  let s1 := s.updStop fun x => { x with holdAll := true }
  let s2 := (s1.holdWhere (fun _ => true) Reasons.addAll).regroup
  (latchIf (!s.stop.holdAll) .holdAll s2, Reply.of .done)

/-- Reasons after RELEASE ALL: ALL and OPERATOR removed (R161). -/
def Reasons.releaseAll (r : Reasons) : Reasons := { r with all := false, operator := false }

/-- RELEASE ALL taken (R161). -/
def serveReleaseAll (s : State) : State × Reply :=
  let s1 := s.updStop fun x => { x with holdAll := false }
  let s2 := (s1.mapClaims fun c => { c with reasons := c.reasons.releaseAll }).settle
  (passIf s.stop.holdAll s2, Reply.of .done)

/-- The entry to RUN (R162). -/
def State.enterRun (s : State) : State :=
  let s1 := s.updStop fun x => { x with state := .run, mark := false }
  ((s1.mapClaims fun c => { c with reasons := c.reasons.convertEstop }).settle).pass

/-- RESUME taken (R162). -/
def serveResume (s : State) : State × Reply :=
  match s.stop.state with
  | .latched => (s.enterRun, Reply.of .done)
  | .stopped => (s, Reply.of .stopped)
  | .run => (s, Reply.of .done)

end Sys2Proof.Machine
end

