-- ==== Sys2Proof/Machine/Presence.lean ====
section
/-! DEFINITION. Presence: presence events, loss and return of a desk (R150, R174 to R176), and the PRESENCE request (R173). -/

namespace Sys2Proof.Machine

/-- PRESENCE taken by link `l` (R173). -/
def servePresence (l : Link) (s : State) : State × Reply := (s, Reply.done (s.statusImage l))

/-- A link at a presence event: PRESENT, its timer from 0 with the window as it stands (R174). -/
def LinkRec.present (x : LinkRec) : LinkRec :=
  { x with presence := .present, presenceTimer := some { elapsed := 0, window := x.window } }

/-- Presence regained at the Clearance Table: DESK_LOST converted on the link's claims, and a pass (R150, R176). -/
def State.regained (s : State) (l : Link) : State :=
  ((s.mapClaims fun c => if c.owner = l then { c with reasons := c.reasons.convertDeskLost } else c).settle).pass

/-- A presence event at link `l` (R174, R176). -/
def State.presenceEvent (s : State) (l : Link) : State :=
  let s1 := s.updLink l LinkRec.present
  if (s.link l).presence = .lost then s1.regained l else s1

/-- A POSTED layer emptied; a FILLING one is left to finish (R175). -/
def Layer.lose : Layer → Layer
  | .free => .free
  | .filling => .filling
  | .posted _ => .free

/-- A link entering LOST: its timer stops, its posted requests and its untaken priority request are discarded (R175). -/
def LinkRec.lose (x : LinkRec) : LinkRec :=
  { x with
    presence := .lost, presenceTimer := none, layer0 := x.layer0.lose, layer1 := x.layer1.lose, posted := [], slot := none }

/-- The loss of link `l` (R175): the link, DESK_LOST on its claims (R150), the group re-evaluation (R90), the latch. -/
def State.loseDesk (s : State) (l : Link) : State :=
  let s1 := s.updLink l LinkRec.lose
  latch (Source.ofLoss l) (s1.holdWhere (fun c => decide (c.owner = l)) Reasons.addDeskLost).regroup

end Sys2Proof.Machine
end

