-- ==== Sys2Proof/Machine/SetRequests.lean ====
section
/-! DEFINITION. The Set Registry's requests: CONFIGURE SET, RELEASE SET, REHANG, LOCK HANG, UNLOCK HANG, REINSTATE, BIND, UNBIND, LOOKUP SET, LOOKUP BOND, READ DIGEST (R16 to R27). -/

namespace Sys2Proof.Machine

/-! ## CONFIGURE SET -/

/-- The rig entry and hang of a CONFIGURE SET, with the defaults of absent fields (R5, R17). -/
def configured (q : ConfigureReq) : Setup :=
  { rig :=
      { segment := q.segment, address := q.address, depth := q.depth, lower := q.lower, upper := q.upper, rated := q.rated
        stopMode := q.stopMode, stopConstant := q.stopConstant.getD Config.defaultStopConstant
        fixedAllowance := q.fixedAllowance, arrivalTol := q.arrivalTol.getD Config.defaultArrivalTol
        stallWindow := q.stallWindow.getD Config.defaultStallWindow }
    hang :=
      { top := q.top, drop := q.drop, fore := q.fore, aft := q.aft, sway := q.sway.getD Config.defaultSway
        loadMin := q.loadMin, loadMax := q.loadMax } }

/-- A setup names a station. -/
def Setup.names (u : Setup) (f : Segment) (a : Nat) : Bool := decide (u.rig.segment = f) && decide (u.rig.address = a)

/-- Another configured set names the station (check 3 of R17). -/
def State.stationTaken (s : State) (n : Nat) (f : Segment) (a : Nat) : Bool :=
  (Tab.numbers 128).any fun k => decide (k ≠ n) && (s.setRec k).setup.any fun u => u.names f a

/-- A segment is in LOOP. -/
def State.inLoop (s : State) (f : Segment) : Bool := decide ((s.bus f).state = .loop)

/-- Checks 1 to 4 of R17. -/
def State.configureCheck (s : State) (q : ConfigureReq) : Option Result :=
  let r := s.setRec q.set
  if r.claim.isSome then some .engaged
  else if r.locked then some .locked
  else if s.stationTaken q.set q.segment q.address then some .malformed
  else if s.inLoop q.segment || r.setup.any (fun u => s.inLoop u.rig.segment) then some .segmentBusy
  else none

/-- The set record after an accepted CONFIGURE SET (R17). -/
def SetRec.configure (r : SetRec) (u : Setup) : SetRec :=
  { r with
    setup := some u, state := .dark, identityVerified := false, restPosition := none, barredCause := none, lastReport := none }

/-- The polling notices of a CONFIGURE SET: where the station changed, the new one joins and the old one leaves (R6, R17,
R98; the join first, log entry 22). -/
def State.moveStation (s : State) (n : Nat) (old : Option Setup) (f : Segment) (a : Nat) : State :=
  match old with
  | none => s.stationJoins f a n
  | some u =>
    if u.names f a then s else (s.stationJoins f a n).stationLeaves u.rig.segment u.rig.address

/-- A mover's column became smaller than it was in either range (R17, R19). -/
def columnShrank (before after : State) (m : Mover) : Bool :=
  match before.column m, after.column m with
  | some old, some new => new.smaller old
  | none, _ => false
  | some _, none => false

/-- The change of a column of a mover that was already untrusted (R143, R151): COLUMN added for the new column, then
re-evaluated, and a pass where the column shrank. -/
def columnChanged (before : State) (m : Mover) (s : State) : State :=
  passIf (columnShrank before s m) (s.raiseColumn m).reevalColumns

/-- The effect of an accepted CONFIGURE SET on the Clearance Table: the trust notice where the mover was trusted, or the
change of its column (R17). A VACANT set was no mover, and its becoming DARK makes an untrusted one. -/
def configureNotices (before : State) (n : Nat) (s : State) : State :=
  if before.untrusted (before.moverOf n) then columnChanged before (before.moverOf n) (setNotices before s)
  else stateNotices before [before.moverOf n] s

/-- CONFIGURE SET taken (R17). -/
def serveConfigureSet (q : ConfigureReq) (s : State) : State × Reply :=
  match s.configureCheck q with
  | some r => (s, Reply.of r)
  | none =>
    let s1 := s.updSet q.set fun r => r.configure (configured q)
    let s2 := s1.moveStation q.set (s.setRec q.set).setup q.segment q.address
    (configureNotices s q.set s2.redigest, Reply.of .done)

/-! ## RELEASE SET -/

/-- Checks 1 to 5 of R18. -/
def State.releaseCheck (s : State) (n : Nat) : Option Result :=
  let r := s.setRec n
  if r.setup.isNone then some .setVacant
  else if r.bond.isSome then some .bonded
  else if r.claim.isSome then some .engaged
  else if r.locked then some .locked
  else if r.setup.any (fun u => s.inLoop u.rig.segment) then some .segmentBusy
  else none

/-- The station of a setup leaves its controller's poll lists (R18). -/
def State.dropStation (s : State) (u : Option Setup) : State :=
  match u with
  | some x => s.stationLeaves x.rig.segment x.rig.address
  | none => s

/-- RELEASE SET taken (R18): the set VACANT, its station gone, its fault summary cleared, the digest recomputed, the COLUMN
holds of a DARK or BARRED set's column re-evaluated, and a pass. -/
def serveReleaseSet (n : Nat) (s : State) : State × Reply :=
  match s.releaseCheck n with
  | some r => (s, Reply.of r)
  | none =>
    let s1 := (s.updSet n fun _ => SetRec.vacant).dropStation (s.setRec n).setup
    let s2 := setNotices s (s1.putFaultSummary n FaultSummary.reset).redigest
    ((if s.untrusted (.set n) then s2.reevalColumns else s2).pass, Reply.of .done)

/-! ## REHANG -/

/-- The set record with a new hang. -/
def SetRec.rehang (r : SetRec) (h : Hang) : SetRec := { r with setup := r.setup.map fun u => { u with hang := h } }

/-- The records with the hang of one set replaced. -/
def State.rehung (s : State) (q : RehangReq) : State := s.updSet q.set fun r => r.rehang q.hang

/-- The set is RESTING and its mover is trusted (check 5 of R19). -/
def State.restingTrusted (s : State) (n : Nat) : Bool :=
  decide ((s.setRec n).state = .resting) && !s.untrusted (s.moverOf n)

/-- Checks 1 to 5 of R19. The candidate is the mover's resting region with the new hang. -/
def State.rehangCheck (s : State) (q : RehangReq) : Option Reply :=
  let r := s.setRec q.set
  if r.setup.isNone then some (Reply.of .setVacant)
  else if r.state = .barred then some (Reply.of .setBarred)
  else if r.claim.isSome then some (Reply.of .engaged)
  else if r.locked then some (Reply.of .locked)
  else if s.restingTrusted q.set then
    (((s.rehung q).restingRegion (s.moverOf q.set)).bind fun c => s.obstacle [s.moverOf q.set] c).map
      fun o => Reply.conflict (some o)
  else none

/-- The mover's resting region became smaller in either range (R19). -/
def restingShrank (before after : State) (m : Mover) : Bool :=
  match before.restingRegion m, after.restingRegion m with
  | some old, some new => new.smaller old
  | none, _ => false
  | some _, none => false

/-- REHANG taken (R19): a pass where a trusted mover's resting region shrank; the column re-evaluated for an untrusted
mover. -/
def serveRehang (q : RehangReq) (s : State) : State × Reply :=
  match s.rehangCheck q with
  | some r => (s, r)
  | none =>
    let s1 := (s.rehung q).redigest
    let m := s.moverOf q.set
    (if s.untrusted m then columnChanged s m s1 else passIf (restingShrank s s1 m) s1, Reply.of .done)

/-! ## Locks and REINSTATE -/

/-- The hang lock of set `n` changed. -/
def State.setLock (s : State) (n : Nat) (b : Bool) : State := s.updSet n fun r => { r with locked := b }

/-- LOCK HANG taken (R20). -/
def serveLockHang (n : Option Nat) (s : State) : State × Reply :=
  match n with
  | some k => if (s.setRec k).setup.isNone then (s, Reply.of .setVacant) else (s.setLock k true, Reply.of .done)
  | none =>
    ({ s with sets := s.sets.map fun r => if r.setup.isSome then { r with locked := true } else r }, Reply.of .done)

/-- UNLOCK HANG taken (R20). -/
def serveUnlockHang (n : Option Nat) (s : State) : State × Reply :=
  match n with
  | some k => (s.setLock k false, Reply.of .done)
  | none => ({ s with sets := s.sets.map fun r => { r with locked := false } }, Reply.of .done)

/-- The set record after REINSTATE (R21). -/
def SetRec.reinstate (r : SetRec) : SetRec := { r with state := .dark, identityVerified := false, barredCause := none }

/-- REINSTATE taken (R21). -/
def serveReinstate (n : Nat) (s : State) : State × Reply :=
  if (s.setRec n).state ≠ .barred then (s, Reply.of .wrongState)
  else (s.updSet n SetRec.reinstate, Reply.of .done)

/-! ## BIND and UNBIND -/

/-- The set numbers of a BIND, ascending. -/
def sortedSets (q : BindReq) : List Nat := (Tab.numbers 128).filter fun n => decide (n ∈ q.sets)

/-- A check applied to every member from the lowest number up. -/
def State.eachMember (s : State) (ns : List Nat) (bad : SetRec → Option Result) : Option Result :=
  ns.findSome? fun n => bad (s.setRec n)

/-- The refusal where a condition holds. -/
def refuseIf (b : Bool) (r : Result) : Option Result := if b then some r else none

/-- Checks 1 to 5 of R22. -/
def State.bindCheck (s : State) (ns : List Nat) : Option Result :=
  (s.eachMember ns fun r => refuseIf r.setup.isNone .setVacant).or <|
  (s.eachMember ns fun r => refuseIf r.bond.isSome .bonded).or <|
  (s.eachMember ns fun r =>
    (refuseIf (decide (r.state = .dark)) .setDark).or (refuseIf (decide (r.state = .barred)) .setBarred)).or <|
  (s.eachMember ns fun r => refuseIf (r.claim.isSome || decide (r.state = .engaged)) .engaged).or <|
  s.eachMember ns fun r => refuseIf r.locked .locked

/-- A new bond `b` of the sets `ns` (R22). -/
def State.makeBond (s : State) (b : Nat) (ns : List Nat) (skew : Nat) : State :=
  let s1 := s.updSets ns fun _ r => { r with bond := some b }
  { s1 with bonds := Tab.put s1.bonds b (some { members := ns, skew := skew, claim := none }) }

/-- BIND taken (R22). -/
def serveBind (q : BindReq) (s : State) : State × Reply :=
  let ns := sortedSets q
  match s.bindCheck ns with
  | some r => (s, Reply.of r)
  | none =>
    match (s.restingAt ns s.restOf).bind fun c => s.obstacle (ns.map Mover.set) c with
    | some o => (s, Reply.conflict (some o))
    | none =>
      match Tab.firstFree s.bonds with
      | none => (s, Reply.of .tableFull)
      | some b => ((s.makeBond b ns (q.skew.getD Config.defaultSkew)).redigest, Reply.done (b1 b))

/-- The resting region of a RESTING member. -/
def State.memberRegion (s : State) (n : Nat) : Option Region :=
  if (s.setRec n).state = .resting then (s.setRec n).setup.map fun u => u.restingRegion s.clearance (s.restOf n) else none

/-- Two RESTING members whose regions conflict. -/
def State.membersMeet (s : State) (n k : Nat) : Bool :=
  decide (n ≠ k) && (s.memberRegion n).any fun r => (s.memberRegion k).any r.conflicts

/-- The lowest-numbered member whose region conflicts with another member's (check 4 of R23). -/
def State.meetingMember (s : State) (ns : List Nat) : Option Nat := ns.find? fun n => ns.any (s.membersMeet n)

/-- Checks 2 to 4 of R23. -/
def State.unbindCheck (s : State) (x : BondRec) : Option Reply :=
  if x.claim.isSome then some (Reply.of .engaged)
  else if x.members.any (fun n => (s.setRec n).locked) then some (Reply.of .locked)
  else (s.meetingMember x.members).map fun n => Reply.conflict (some { kind := .set, number := n, basis := .region })

/-- Bond `b` freed (R23). -/
def State.freeBond (s : State) (b : Nat) (x : BondRec) : State :=
  let s1 := s.updSets x.members fun _ r => { r with bond := none }
  { s1 with bonds := Tab.put s1.bonds b none }

/-- The columns of the untrusted members raised in ascending order (R143). -/
def State.raiseMemberColumns (s : State) (ns : List Nat) : State :=
  ns.foldl (fun t n => if t.untrusted (.set n) then t.raiseColumn (.set n) else t) s

/-- UNBIND taken (R23): of an untrusted bond, the members' columns raised and the COLUMN holds re-evaluated; in every case
a pass. -/
def serveUnbind (b : Nat) (s : State) : State × Reply :=
  match s.bond? b with
  | none => (s, Reply.of .noSuch)
  | some x =>
    match s.unbindCheck x with
    | some r => (s, r)
    | none =>
      let s1 := (s.freeBond b x).redigest
      ((if s.untrusted (.bond b) then (s1.raiseMemberColumns x.members).reevalColumns else s1).pass, Reply.of .done)

/-! ## Lookups -/

/-- LOOKUP SET taken (R24). -/
def serveLookupSet (n : Nat) (s : State) : State × Reply := (s, Reply.done (s.setImage n))

/-- LOOKUP BOND taken (R25). -/
def serveLookupBond (b : Nat) (s : State) : State × Reply :=
  match s.bond? b with
  | none => (s, Reply.of .noSuch)
  | some x => (s, Reply.done (s.bondImage b x))

/-- READ DIGEST taken (R27). -/
def serveReadDigest (s : State) : State × Reply := (s, Reply.done s.digestImage)

end Sys2Proof.Machine
end

