-- ==== Sys2Proof/Machine/Requests.lean ====
section
/-! DEFINITION. How a request is taken and answered (R167, R170, R171, R179), and the meaning of each request of the table. -/

namespace Sys2Proof.Machine

/-! ## Roles (R167) -/

/-- The kinds a LOOKUP desk may send: PRESENCE and the lookups (R167). -/
def lookupKinds : List Nat := [1, 26, 27, 28, 32, 41, 42, 43, 45, 46, 49, 51]

/-- A role permits a request of a kind (the table of R167). -/
def Role.permits (x : Role) (kind : Nat) : Bool :=
  match x with
  | .full => true
  | .hold => decide (kind ∈ lookupKinds) || decide (kind ∈ [2, 3, 4])
  | .lookup => decide (kind ∈ lookupKinds)
  | .off => false

/-! ## The owner's step -/

/-- The owner takes a request of link `l` whose role and form are good. -/
def serve (l : Link) (r : Request) (s : State) : State × Reply :=
  match r with
  | .presence => servePresence l s
  | .stop => serveStop s
  | .holdAll => serveHoldAll s
  | .holdClaim n => serveHoldClaim n s
  | .releaseAll => serveReleaseAll s
  | .resume => serveResume s
  | .claim q => serveClaim l q s
  | .retarget q => serveRetarget l q s
  | .retire n => serveRetire l n s
  | .releaseClaim n => serveReleaseClaim l n s
  | .addKeepout q => serveAddKeepout q s
  | .retireKeepout n => serveRetireKeepout n s
  | .warmRestart => serveWarmRestart s
  | .adopt n => serveAdopt l n s
  | .lookupClaim n => serveLookupClaim n s
  | .listClaims q => serveListClaims q s
  | .lookupKeepout n => serveLookupKeepout n s
  | .openGroup q => serveOpenGroup l q s
  | .closeGroup g => serveCloseGroup l g s
  | .cancelGroup g => serveCancelGroup l g s
  | .lookupGroup g => serveLookupGroup g s
  | .configureSet q => serveConfigureSet q s
  | .releaseSet n => serveReleaseSet n s
  | .rehang q => serveRehang q s
  | .lockHang n => serveLockHang n s
  | .unlockHang n => serveUnlockHang n s
  | .reinstate n => serveReinstate n s
  | .bind q => serveBind q s
  | .unbind b => serveUnbind b s
  | .lookupSet n => serveLookupSet n s
  | .lookupBond b => serveLookupBond b s
  | .readDigest => serveReadDigest s
  | .loopTest f => serveLoopTest f s
  | .lookupSegment f => serveLookupSegment f s
  | .lookupStation f a => serveLookupStation f a s
  | .clearAttention q => serveClearAttention q s
  | .clearFaults n => serveClearFaults n s
  | .readAttention => serveReadAttention s
  | .setParameter p v => serveSetParameter p v s
  | .readParameter p => serveReadParameter p s

/-- A request taken whole: the role check, the form check, and then the owner's own checks and effect (R16, R44, R79, R158,
R167, R178). -/
def answer (l : Link) (r : Request) (s : State) : State × Reply :=
  if !(s.link l).role.permits (kindOf r) then (s, Reply.of .notPermitted)
  else if !formOk r then (s, Reply.of .malformed)
  else serve l r s

/-- The tag of a payload; zero where it is too short to hold one (R165). -/
def tagOf : List Byte → Word16
  | hi :: lo :: _ => word16 hi lo
  | [] => 0
  | [_] => 0

/-- A good frame taken (R165, R170, R191): a kind that names no request, or a payload too short for the tag, is MALFORMED;
then the role check, and the layout and form of its payload. -/
def answerFrame (l : Link) (x : Frame) (s : State) : State × Reply :=
  if !namesRequest x.kind || decide (x.payload.length < 2) then (s, Reply.of .malformed)
  else if !(s.link l).role.permits x.kind.toNat then (s, Reply.of .notPermitted)
  else
    match readRequest x.kind.toNat (x.payload.drop 2) with
    | none => (s, Reply.of .malformed)
    | some r => answer l r s

/-! ## Where the response goes -/

/-- A regular request can be taken: the link's role is not OFF and the response queue has a free entry (R166, R170). -/
def LinkRec.canQueue (x : LinkRec) : Bool := decide (x.role ≠ .off) && decide (x.queue.length < Config.queueDepth)

/-- A priority request can be taken: the link's role is not OFF and the priority response slot is empty (R166, R171). -/
def LinkRec.canAnswer (x : LinkRec) : Bool := decide (x.role ≠ .off) && x.priorityResponse.isNone

/-- A reply placed at the tail of the response queue (R170). -/
def queueReply (l : Link) (kind : Byte) (tag : Word16) (p : State × Reply) : State :=
  p.1.enqueue l (p.1.response kind tag false p.2)

/-- A reply placed in the priority response slot (R171). -/
def slotReply (l : Link) (kind : Byte) (tag : Word16) (superseded : Bool) (p : State × Reply) : State :=
  p.1.answerPriority l (p.1.response kind tag superseded p.2)

/-- A regular request of link `l` taken by its owner and its response queued, in one step (R170); where it cannot be taken
nothing happens. -/
def takeRegular (l : Link) (tag : Word16) (r : Request) (s : State) : State :=
  if (s.link l).canQueue then queueReply l (byteOf (kindOf r)) tag (answer l r s) else s

/-- A priority request of link `l` taken by its owner and its response placed in the priority response slot, in one step
(R171); where it cannot be taken nothing happens. -/
def takePriority (l : Link) (tag : Word16) (r : Request) (s : State) : State :=
  if (s.link l).canAnswer then slotReply l (byteOf (kindOf r)) tag false (answer l r s) else s

/-! ## The meanings of the requests -/

/-- PRESENCE (R173). -/
def execPresence (l : Link) (tag : Word16) (s : State) : Host.Outcome State Fault Refusal :=
  .next (takePriority l tag .presence s)

/-- STOP (R159). -/
def execStop (l : Link) (tag : Word16) (s : State) : Host.Outcome State Fault Refusal :=
  .next (takePriority l tag .stop s)

/-- HOLD ALL (R160). -/
def execHoldAll (l : Link) (tag : Word16) (s : State) : Host.Outcome State Fault Refusal :=
  .next (takePriority l tag .holdAll s)

/-- HOLD CLAIM (R51). -/
def execHoldClaim (l : Link) (tag : Word16) (claim : Nat) (s : State) : Host.Outcome State Fault Refusal :=
  .next (takePriority l tag (.holdClaim claim) s)

/-- RELEASE ALL (R161). -/
def execReleaseAll (l : Link) (tag : Word16) (s : State) : Host.Outcome State Fault Refusal :=
  .next (takeRegular l tag .releaseAll s)

/-- RESUME (R162). -/
def execResume (l : Link) (tag : Word16) (s : State) : Host.Outcome State Fault Refusal :=
  .next (takeRegular l tag .resume s)

/-- CLAIM (R46, R47). -/
def execClaim (l : Link) (tag : Word16) (q : ClaimReq) (s : State) : Host.Outcome State Fault Refusal :=
  .next (takeRegular l tag (.claim q) s)

/-- RETARGET (R48, R49). -/
def execRetarget (l : Link) (tag : Word16) (q : RetargetReq) (s : State) : Host.Outcome State Fault Refusal :=
  .next (takeRegular l tag (.retarget q) s)

/-- RETIRE (R50). -/
def execRetire (l : Link) (tag : Word16) (claim : Nat) (s : State) : Host.Outcome State Fault Refusal :=
  .next (takeRegular l tag (.retire claim) s)

/-- RELEASE CLAIM (R52). -/
def execReleaseClaim (l : Link) (tag : Word16) (claim : Nat) (s : State) : Host.Outcome State Fault Refusal :=
  .next (takeRegular l tag (.releaseClaim claim) s)

/-- ADD KEEPOUT (R56). -/
def execAddKeepout (l : Link) (tag : Word16) (q : KeepoutReq) (s : State) : Host.Outcome State Fault Refusal :=
  .next (takeRegular l tag (.addKeepout q) s)

/-- RETIRE KEEPOUT (R57). -/
def execRetireKeepout (l : Link) (tag : Word16) (keepout : Nat) (s : State) : Host.Outcome State Fault Refusal :=
  .next (takeRegular l tag (.retireKeepout keepout) s)

/-- WARM RESTART (R61). -/
def execWarmRestart (l : Link) (tag : Word16) (s : State) : Host.Outcome State Fault Refusal :=
  .next (takeRegular l tag .warmRestart s)

/-- ADOPT (R177). -/
def execAdopt (l : Link) (tag : Word16) (source : Nat) (s : State) : Host.Outcome State Fault Refusal :=
  .next (takeRegular l tag (.adopt source) s)

/-- LOOKUP CLAIM (R53). -/
def execLookupClaim (l : Link) (tag : Word16) (claim : Nat) (s : State) : Host.Outcome State Fault Refusal :=
  .next (takeRegular l tag (.lookupClaim claim) s)

/-- LIST CLAIMS (R54). -/
def execListClaims (l : Link) (tag : Word16) (q : ListReq) (s : State) : Host.Outcome State Fault Refusal :=
  .next (takeRegular l tag (.listClaims q) s)

/-- LOOKUP KEEPOUT (R58). -/
def execLookupKeepout (l : Link) (tag : Word16) (keepout : Nat) (s : State) : Host.Outcome State Fault Refusal :=
  .next (takeRegular l tag (.lookupKeepout keepout) s)

/-- OPEN GROUP (R80). -/
def execOpenGroup (l : Link) (tag : Word16) (q : OpenGroupReq) (s : State) : Host.Outcome State Fault Refusal :=
  .next (takeRegular l tag (.openGroup q) s)

/-- CLOSE GROUP (R82). -/
def execCloseGroup (l : Link) (tag : Word16) (group : Nat) (s : State) : Host.Outcome State Fault Refusal :=
  .next (takeRegular l tag (.closeGroup group) s)

/-- CANCEL GROUP (R83). -/
def execCancelGroup (l : Link) (tag : Word16) (group : Nat) (s : State) : Host.Outcome State Fault Refusal :=
  .next (takeRegular l tag (.cancelGroup group) s)

/-- LOOKUP GROUP (R93). -/
def execLookupGroup (l : Link) (tag : Word16) (group : Nat) (s : State) : Host.Outcome State Fault Refusal :=
  .next (takeRegular l tag (.lookupGroup group) s)

/-- CONFIGURE SET (R17). -/
def execConfigureSet (l : Link) (tag : Word16) (q : ConfigureReq) (s : State) : Host.Outcome State Fault Refusal :=
  .next (takeRegular l tag (.configureSet q) s)

/-- RELEASE SET (R18). -/
def execReleaseSet (l : Link) (tag : Word16) (set : Nat) (s : State) : Host.Outcome State Fault Refusal :=
  .next (takeRegular l tag (.releaseSet set) s)

/-- REHANG (R19). -/
def execRehang (l : Link) (tag : Word16) (q : RehangReq) (s : State) : Host.Outcome State Fault Refusal :=
  .next (takeRegular l tag (.rehang q) s)

/-- LOCK HANG (R20). -/
def execLockHang (l : Link) (tag : Word16) (set : Option Nat) (s : State) : Host.Outcome State Fault Refusal :=
  .next (takeRegular l tag (.lockHang set) s)

/-- UNLOCK HANG (R20). -/
def execUnlockHang (l : Link) (tag : Word16) (set : Option Nat) (s : State) : Host.Outcome State Fault Refusal :=
  .next (takeRegular l tag (.unlockHang set) s)

/-- REINSTATE (R21). -/
def execReinstate (l : Link) (tag : Word16) (set : Nat) (s : State) : Host.Outcome State Fault Refusal :=
  .next (takeRegular l tag (.reinstate set) s)

/-- BIND (R22). -/
def execBind (l : Link) (tag : Word16) (q : BindReq) (s : State) : Host.Outcome State Fault Refusal :=
  .next (takeRegular l tag (.bind q) s)

/-- UNBIND (R23). -/
def execUnbind (l : Link) (tag : Word16) (bond : Nat) (s : State) : Host.Outcome State Fault Refusal :=
  .next (takeRegular l tag (.unbind bond) s)

/-- LOOKUP SET (R24). -/
def execLookupSet (l : Link) (tag : Word16) (set : Nat) (s : State) : Host.Outcome State Fault Refusal :=
  .next (takeRegular l tag (.lookupSet set) s)

/-- LOOKUP BOND (R25). -/
def execLookupBond (l : Link) (tag : Word16) (bond : Nat) (s : State) : Host.Outcome State Fault Refusal :=
  .next (takeRegular l tag (.lookupBond bond) s)

/-- READ DIGEST (R27). -/
def execReadDigest (l : Link) (tag : Word16) (s : State) : Host.Outcome State Fault Refusal :=
  .next (takeRegular l tag .readDigest s)

/-- LOOP TEST (R113). -/
def execLoopTest (l : Link) (tag : Word16) (segment : Nat) (s : State) : Host.Outcome State Fault Refusal :=
  .next (takeRegular l tag (.loopTest segment) s)

/-- LOOKUP SEGMENT (R117). -/
def execLookupSegment (l : Link) (tag : Word16) (segment : Nat) (s : State) : Host.Outcome State Fault Refusal :=
  .next (takeRegular l tag (.lookupSegment segment) s)

/-- LOOKUP STATION (R118). -/
def execLookupStation (l : Link) (tag : Word16) (segment : Nat) (address : Nat) (s : State) : Host.Outcome State Fault Refusal :=
  .next (takeRegular l tag (.lookupStation segment address) s)

/-- CLEAR ATTENTION (R185). -/
def execClearAttention (l : Link) (tag : Word16) (q : ClearReq) (s : State) : Host.Outcome State Fault Refusal :=
  .next (takeRegular l tag (.clearAttention q) s)

/-- CLEAR FAULTS (R189). -/
def execClearFaults (l : Link) (tag : Word16) (set : Option Nat) (s : State) : Host.Outcome State Fault Refusal :=
  .next (takeRegular l tag (.clearFaults set) s)

/-- READ ATTENTION (R186). -/
def execReadAttention (l : Link) (tag : Word16) (s : State) : Host.Outcome State Fault Refusal :=
  .next (takeRegular l tag .readAttention s)

/-- SET PARAMETER (R178). -/
def execSetParameter (l : Link) (tag : Word16) (p : ParamName) (value : Nat) (s : State) : Host.Outcome State Fault Refusal :=
  .next (takeRegular l tag (.setParameter p value) s)

/-- READ PARAMETER (R178). -/
def execReadParameter (l : Link) (tag : Word16) (p : ParamName) (s : State) : Host.Outcome State Fault Refusal :=
  .next (takeRegular l tag (.readParameter p) s)

/-- A request of a kind that names no request, taken by the link itself and answered MALFORMED (R165, R170). A kind that
names a request is no such request. -/
def execUnknownRequest (l : Link) (tag : Word16) (kind : Byte) (s : State) : Host.Outcome State Fault Refusal :=
  .next (if (s.link l).canQueue && !namesRequest kind then queueReply l kind tag (s, Reply.of .malformed) else s)

end Sys2Proof.Machine
end

