-- ==== Sys2Proof/Machine/LinkEvents.lean ====
section
/-! DEFINITION. The events of a desk link: frames, layers, the priority slot, requests taken from them, and transmission (R164 to R172, R192). -/

namespace Sys2Proof.Machine

/-! ## Frames (R165, R192) -/

/-- A frame is good: no framing error, a length the layout admits that agrees with its length field, and a CRC-16 that agrees
(R165). -/
def goodFrame (bytes : List Byte) (framingError : Bool) : Bool :=
  !framingError && decide (4 ≤ bytes.length) && decide (bytes.length ≤ 94) &&
    decide ((bytes.getD 1 0#8).toNat + 4 = bytes.length) && decide ((bytes.getD 1 0#8).toNat ≤ 90) &&
    decide (word16 (bytes.getD (bytes.length - 2) 0#8) (bytes.getD (bytes.length - 1) 0#8) =
      crc16 (bytes.take (bytes.length - 2)))

/-- The kind and payload of a good frame. -/
def frameOf (bytes : List Byte) : Frame :=
  { kind := bytes.getD 0 0#8, payload := (bytes.drop 2).take (bytes.getD 1 0#8).toNat }

/-! ## Layers (R168, R169) -/

/-- The layer of a name. -/
def LinkRec.layer (x : LinkRec) : LayerName → Layer
  | .l0 => x.layer0
  | .l1 => x.layer1

/-- The layer of a name replaced. -/
def LinkRec.putLayer (x : LinkRec) (n : LayerName) (y : Layer) : LinkRec :=
  match n with
  | .l0 => { x with layer0 := y }
  | .l1 => { x with layer1 := y }

/-- Where a frame with this first byte goes: a priority frame to the slot; a regular one to layer 0 where it is FREE, to
layer 1 where that is, and nowhere otherwise (R168, R169, R171). -/
def LinkRec.destination (x : LinkRec) (first : Byte) : Destination :=
  if priorityKind first then .slot
  else if x.layer0 = .free then .layer .l0
  else if x.layer1 = .free then .layer .l1
  else .overrun

/-- The layer a frame fills becomes FILLING (R168). -/
def LinkRec.fill (x : LinkRec) : Destination → LinkRec
  | .layer n => x.putLayer n .filling
  | .overrun => x
  | .slot => x

/-- A frame begins (R168); the link is not OFF and no frame is being received. -/
def LinkRec.beginFrame (x : LinkRec) (first : Byte) : LinkRec :=
  if x.role = .off ∨ x.receiving.isSome then x
  else { x.fill (x.destination first) with receiving := some { first := first, dest := x.destination first } }

/-- The layer a bad frame was filling becomes FREE (R165, R168). -/
def LinkRec.discard (x : LinkRec) : Destination → LinkRec
  | .layer n => x.putLayer n .free
  | .overrun => x
  | .slot => x

/-- A good regular frame posted in its layer (R168). -/
def LinkRec.post (x : LinkRec) (n : LayerName) (r : Frame) : LinkRec :=
  { x.putLayer n (.posted r) with posted := x.posted ++ [n] }

/-- A good priority frame placed in the slot, marked superseded where it replaces another (R171). -/
def LinkRec.place (x : LinkRec) (r : Frame) : LinkRec :=
  { x with slot := some { frame := r, superseded := x.slot.isSome } }

/-! ## Requests taken -/

/-- The request in the priority slot taken, where there is one and the priority response slot is empty (R171). -/
def State.takeSlot (s : State) (l : Link) : State :=
  match (s.link l).slot with
  | none => s
  | some x =>
    if (s.link l).canAnswer then
      let s1 := s.updLink l fun r => { r with slot := none }
      slotReply l x.frame.kind (tagOf x.frame.payload) x.superseded (answerFrame l x.frame s1)
    else s

/-- The oldest POSTED request of a link taken, where the response queue has a free entry; its layer becomes FREE (R170). -/
def State.takePosted (s : State) (l : Link) : State :=
  match (s.link l).posted with
  | [] => s
  | n :: ns =>
    match (s.link l).layer n with
    | .posted x =>
      if (s.link l).canQueue then
        let s1 := s.updLink l fun r => { r.putLayer n .free with posted := ns }
        queueReply l x.kind (tagOf x.payload) (answerFrame l x s1)
      else s
    | .free => s
    | .filling => s

/-! ## The end of a frame -/

/-- A good frame placed where it goes, after its presence event (R168, R169, R171, R176). -/
def State.placeFrame (s : State) (l : Link) (d : Destination) (r : Frame) : State :=
  match d with
  | .layer n => s.updLink l fun x => x.post n r
  | .overrun => latch (Source.ofOverrun l) s
  | .slot => (s.updLink l fun x => x.place r).takeSlot l

/-- A frame ends (R165): bad frames are discarded; a good one gives a presence event and is then placed. -/
def State.frameEnd (s : State) (l : Link) (rest : List Byte) (framingError : Bool) : State :=
  match (s.link l).receiving with
  | none => s
  | some x =>
    let s1 := s.updLink l fun r => { r with receiving := none }
    if goodFrame (x.first :: rest) framingError then
      (s1.presenceEvent l).placeFrame l x.dest (frameOf (x.first :: rest))
    else s1.updLink l fun r => r.discard x.dest

/-! ## Transmission (R172) -/

/-- The response the transmitter sends next: the priority response, or else the head of the queue (R172). -/
def LinkRec.nextSending (x : LinkRec) : Option Sending :=
  match x.priorityResponse with
  | some r => some { priority := true, bytes := r.frame }
  | none => x.queue.head?.map fun r => { priority := false, bytes := r.frame }

/-- The transmitter begins a frame where it is free and has one to send (R172). -/
def LinkRec.startSending (x : LinkRec) : LinkRec :=
  if x.sending.isNone then { x with sending := x.nextSending } else x

/-- A transmission ends: its response leaves its slot or the queue (R170, R172). -/
def LinkRec.endSending (x : LinkRec) : LinkRec :=
  match x.sending with
  | none => x
  | some y =>
    if y.priority then { x with sending := none, priorityResponse := none }
    else { x with sending := none, queue := x.queue.tail }

/-! ## The meanings of the link events -/

/-- DESK_FRAME_BEGIN (R168). -/
def execDeskFrameBegin (l : Link) (first : Byte) (s : State) : Host.Outcome State Fault Refusal :=
  .next (s.updLink l fun x => x.beginFrame first)

/-- DESK_FRAME_END (R165). -/
def execDeskFrameEnd (l : Link) (rest : List Byte) (framingError : Bool) (s : State) : Host.Outcome State Fault Refusal :=
  .next (s.frameEnd l rest framingError)

/-- POSTED_REQUEST_TAKEN (R170). -/
def execPostedRequestTaken (l : Link) (s : State) : Host.Outcome State Fault Refusal := .next (s.takePosted l)

/-- PRIORITY_REQUEST_TAKEN (R171). -/
def execPriorityRequestTaken (l : Link) (s : State) : Host.Outcome State Fault Refusal := .next (s.takeSlot l)

/-- RESPONSE_TRANSMIT_START (R172). -/
def execResponseTransmitStart (l : Link) (s : State) : Host.Outcome State Fault Refusal :=
  .next (s.updLink l LinkRec.startSending)

/-- RESPONSE_TRANSMIT_END (R172). -/
def execResponseTransmitEnd (l : Link) (s : State) : Host.Outcome State Fault Refusal :=
  .next (s.updLink l LinkRec.endSending)

end Sys2Proof.Machine
end

