-- ==== Sys2Proof/Machine/SetRegistry.lean ====
section
/-! DEFINITION. The Set Registry's handling of reports and findings: roll call, outcome tests, identity and STALE (R9 to R14). -/

namespace Sys2Proof.Machine

/-- The bond's resting region computed as if set `n` were RESTING at `p` (R13). -/
def State.bondRegionWith (s : State) (b n : Nat) (p : Int) : Option Region :=
  s.restingAt (s.members (.bond b)) fun k => if k = n then p else s.restOf k

/-- Every other member of the bond is RESTING (R13). -/
def State.othersResting (s : State) (b n : Nat) : Bool :=
  (s.members (.bond b)).all fun k => decide (k = n) || decide ((s.setRec k).state = .resting)

/-- The candidate regions of a set under roll call at position `p`: its own resting region, and the bond's where every other
member is RESTING (test 5 of R12, R13). -/
def State.rollCallRegions (s : State) (n : Nat) (u : Setup) (p : Int) : List Region :=
  u.restingRegion s.clearance p ::
    match (s.setRec n).bond with
    | some b => if s.othersResting b n then (s.bondRegionWith b n p).toList else []
    | none => []

/-- The roll-call decision (R12): the set's record after the first test that applies. -/
def State.rollCall (s : State) (n : Nat) (u : Setup) (r : Report) (x : SetRec) : SetRec :=
  if r.status = .running ∨ r.status = .stopping then x
  else if r.status.isFault then x.bar .station
  else if !u.inRange r.position then x.bar .trim
  else if !u.loadOk r.load then x.bar .load
  else if (s.rollCallRegions n u r.position).any (fun c => !s.fits [s.moverOf n] c) then x.bar .conflict
  else x.rest r.position

/-- The position differs from the rest position by more than the drift tolerance (test 3 of R10). -/
def State.drifted (s : State) (n : Nat) (p : Int) : Bool := decide (s.driftTolerance < (p - s.restOf n).natAbs)

/-- The outcome tests of a RESTING set (R10). -/
def State.restTests (s : State) (n : Nat) (u : Setup) (r : Report) (x : SetRec) : SetRec :=
  if r.status.isFault then x.bar .station
  else if !u.loadOk r.load then x.bar .load
  else if s.drifted n r.position then x.bar .drift
  else x

/-- A set's record after an ordinary report, its last reported fields recorded first (R9, R10, R12). -/
def State.reported (s : State) (n : Nat) (u : Setup) (r : Report) : SetRec :=
  let x := { s.setRec n with lastReport := some r }
  match x.state with
  | .dark => if x.identityVerified then s.rollCall n u r x else x
  | .resting => if (s.liveClaim (s.moverOf n)).isSome then x else s.restTests n u r x
  | .engaged => x
  | .barred => x
  | .vacant => x

/-- The notices after one set's record changed in the state `before`, and a pass where its mover became trusted (R6, R69). -/
def State.afterSetChange (before s : State) (n : Nat) : State :=
  passIf (trustGained before s [before.moverOf n]) (stateNotices before [before.moverOf n] s)

/-- The Set Registry takes an ordinary report for set `n` (R9); a report for a VACANT set is not recorded. The pass is the
caller's (R69). -/
def State.registryReport (s : State) (n : Nat) (r : Report) : State :=
  match (s.setRec n).setup with
  | none => s
  | some u => stateNotices s [s.moverOf n] (s.updSet n fun _ => s.reported n u r)

/-- The pass that a report handed to the Set Registry starts: where it made the set's mover trusted (R6, R68). -/
def State.reportTrusts (s : State) (n : Nat) (r : Report) : Bool := trustGained s (s.registryReport n r) [s.moverOf n]

/-- A SET_REPORT taken whole: the report, and the pass it starts. -/
def State.takeReport (s : State) (n : Nat) (r : Report) : State := passIf (s.reportTrusts n r) (s.registryReport n r)

/-- A set's record after an IDENT report naming the commissioned set number `k` (R11). -/
def SetRec.identified (x : SetRec) (n k : Nat) : SetRec :=
  if x.state = .dark ∧ ¬ x.identityVerified then
    if k = n then { x with identityVerified := true } else x.bar .identity
  else x

/-- The Set Registry takes an IDENT report (R11). -/
def State.registryIdent (s : State) (n k : Nat) : State :=
  s.afterSetChange (s.updSet n fun x => x.identified n k) n

/-- A set's record at the STALE finding without a live claim (R14). -/
def SetRec.stale (x : SetRec) : SetRec :=
  match x.state with
  | .dark => x.bar .station
  | .resting => x.bar .station
  | .engaged => x
  | .barred => x
  | .vacant => x

/-- The Set Registry takes the STALE finding for set `n` (R14). -/
def State.registryStale (s : State) (n : Nat) : State := s.afterSetChange (s.updSet n SetRec.stale) n

end Sys2Proof.Machine
end

