-- ==== Sys2Proof/Machine/TravelMonitor.lean ====
section
/-! DEFINITION. The Travel Monitor's handling of poll outcomes: take, arrival, stall progress, completion, stop supervision and the fault tests (R36, R40, R41, R121 to R139, R144). -/

namespace Sys2Proof.Machine

/-! ## Members -/

/-- The member of a supervision record for set `n`, changed. -/
def Supervision.updMember (x : Supervision) (n : Nat) (g : SupMember → SupMember) : Supervision :=
  { x with members := x.members.map fun m => if m.set = n then g m else m }

/-- The claim's supervision record changed. -/
def ClaimRec.updSup (c : ClaimRec) (g : Supervision → Supervision) : ClaimRec := { c with sup := c.sup.map g }

/-- The members of a claim's supervision record. -/
def ClaimRec.supMembers (c : ClaimRec) : List SupMember := (c.sup.map Supervision.members).getD []

/-- Step 1 of R123: the member's last position, and its fresh report where the report is taken fresh (R124). -/
def SupMember.take (m : SupMember) (r : Report) (fresh : Bool) : SupMember :=
  { m with
    lastPosition := r.position
    fresh := if fresh then some { status := r.status, position := r.position, load := r.load } else m.fresh }

/-- A claim record after step 1 of R123 for set `n`. -/
def ClaimRec.positioned (c : ClaimRec) (n : Nat) (r : Report) (fresh : Bool) : ClaimRec :=
  c.updSup fun x => x.updMember n fun m => m.take r fresh

/-! ## Fault tests (R135 to R138) -/

/-- The reporting member's resting region at the reported position is not contained in the span (R135). -/
def State.breaches (s : State) (c : ClaimRec) (u : Setup) (p : Int) : Bool :=
  !c.span.any fun g => (u.restingRegion s.clearance p).within g

/-- The displacements of a claim's members: last position less start position, with sign (R136). -/
def ClaimRec.displacements (c : ClaimRec) : List Int := c.supMembers.map fun m => m.lastPosition - positionIn c.starts m.set

/-- Two displacements differ by more than a tolerance. -/
def spreadOver (tol : Nat) (ds : List Int) : Bool := ds.any fun a => ds.any fun b => decide ((tol : Int) < a - b)

/-- The greatest displacement of a bond's members exceeds the least by more than the skew tolerance (R136). -/
def State.skewed (s : State) (c : ClaimRec) : Bool :=
  match c.mover with
  | .set _ => false
  | .bond b => (s.bond? b).any fun x => spreadOver x.skew c.displacements

/-- Steps 2 to 5 of R123: the first fault test that a report meets. -/
def State.reportFault (s : State) (c : ClaimRec) (u : Setup) (r : Report) : Option FaultCause :=
  if r.status.isFault then some (.station r.status)
  else if !u.loadOk r.load then some .load
  else if s.breaches c u r.position then some .breach
  else if s.skewed c then some .skew
  else none

/-! ## Take (R125 to R127) -/

/-- A counted poll: its frame carried GO with the member's present target and the claim's present speed (R125). -/
def ClaimRec.counts (c : ClaimRec) (n : Nat) (k : Content) : Bool :=
  decide (k = { command := .go, target := positionIn c.memberTargets n, cap := c.grantedSpeed.getD 0 })

/-- A member after a counted poll: a member whose mark is set keeps mark and count; otherwise the count rises while the
window is running, and the mark is set where the poll took the grant (R125, R128). -/
def SupMember.polled (m : SupMember) (running takes : Bool) : SupMember :=
  if m.takenMark then m
  else { m with takeCount := if running then m.takeCount + 1 else m.takeCount, takenMark := takes }

/-- The taken mark of set `n` is set. -/
def ClaimRec.marked (c : ClaimRec) (n : Nat) : Bool := c.supMembers.any fun m => decide (m.set = n) && m.takenMark

/-- Every member's taken mark is set. -/
def ClaimRec.allMarked (c : ClaimRec) : Bool := c.supMembers.all SupMember.takenMark

/-- The member of set `n` has reached the limit of counted polls (R127). -/
def ClaimRec.atLimit (c : ClaimRec) (n : Nat) : Bool :=
  c.supMembers.any fun m => decide (m.set = n) && decide (Config.takeLimit ≤ m.takeCount)

/-- The take window is running. -/
def ClaimRec.windowRuns (c : ClaimRec) : Bool := c.sup.any fun x => decide (x.take = .running)

/-- A claim record at the TAKEN finding (R36, R126). -/
def ClaimRec.take (c : ClaimRec) : ClaimRec :=
  match c.state with
  | .granted => { c with taken := true, state := .moving, sup := c.sup.map fun x => x.onMoving c.memberTargets }
  | .held => { c with taken := true, sup := c.sup.map fun x => { x with take := .stopped } }
  | .waiting => c
  | .moving => c
  | .retiring => c
  | .arrived => c
  | .standing => c
  | .faulted => c

/-- The take step for claim `c` in GRANTED or HELD (R125 to R127): a poll with content `k` of set `n`'s station, which
would take the grant where `takes` holds. TAKEN is given where it sets the last mark, NO_TAKE where it brings the count to
the limit. -/
def State.takeStep (s : State) (c : ClaimRec) (n : Nat) (k : Content) (takes : Bool) : State :=
  if c.counts n k && !c.marked n then
    let c1 := c.updSup fun x => x.updMember n fun m => m.polled c.windowRuns takes
    let s1 := s.updClaim c.number fun _ => c1
    if takes then
      if c1.allMarked then s1.updClaim c.number fun _ => c1.take else s1
    else if c1.windowRuns && c1.atLimit n then s1.faultClaim c1 .noTake
    else s1
  else s

/-! ## Arrival, stall progress, completion (R129, R130, R133) -/

/-- A status of a station at rest: READY or BRAKED. -/
def Status.atRest (x : Status) : Bool := decide (x = .ready) || decide (x = .braked)

/-- The member has a fresh report at rest (R133). -/
def SupMember.restedFresh (m : SupMember) : Bool := m.fresh.any fun r => r.status.atRest

/-- The arrival tolerance of set `n`. -/
def State.tolerance (s : State) (n : Nat) : Nat := ((s.setRec n).setup.map fun u => u.rig.arrivalTol).getD 0

/-- The member has arrived: a fresh report at rest within the tolerance of its target (R129). -/
def State.memberArrived (s : State) (c : ClaimRec) (m : SupMember) : Bool :=
  m.fresh.any fun r => r.status.atRest && decide ((r.position - positionIn c.memberTargets m.set).natAbs ≤ s.tolerance m.set)

/-- The positions of the members' fresh reports (R129, R133). -/
def ClaimRec.freshPositions (c : ClaimRec) : List (Nat × Int) :=
  c.supMembers.filterMap fun m => m.fresh.map fun r => (m.set, r.position)

/-- A claim record entering ARRIVED at given positions, with its span there and no group (R41, R89). -/
def ClaimRec.arrive (c : ClaimRec) (span : Option Region) : ClaimRec :=
  { c with
    state := .arrived, span := span, group := none
    sup := c.sup.map fun x => { x with take := .stopped, stall := none, deadline := x.deadline.pause } }

/-- The arrival finding taken (R41, R89). The pass is the caller's. -/
def State.arrival (s : State) (c : ClaimRec) : State :=
  if c.keep then
    ((s.updClaim c.number fun x => x.arrive (s.arrivedSpan c.mover c.freshPositions)).groupDrop c).regroup
  else s.removeLive c (.at c.freshPositions)

/-- The member has progressed (R130). -/
def State.progressed (s : State) (c : ClaimRec) (m : SupMember) : Bool :=
  m.stallRef.any (fun ref => decide (m.remaining c.memberTargets + Config.progressStep ≤ ref)) ||
    decide (m.remaining c.memberTargets ≤ s.tolerance m.set)

/-- Stall progress: where every member has progressed, the stall timer restarts from 0 and the references are reset
(R130). -/
def State.stallProgress (s : State) (c : ClaimRec) : State :=
  if c.supMembers.all (s.progressed c) then
    s.updClaim c.number fun x => x.updSup fun y => { y.setRefs x.memberTargets with stall := some 0 }
  else s

/-- The stop window is marked run out (R132). -/
def ClaimRec.ranOut (c : ClaimRec) : Bool := c.sup.any fun x => decide (x.stopWindow = .runOut)

/-- A fresh report of RUNNING after the window has run out gives NO_STOP (R134). -/
def State.stopStep (s : State) (c : ClaimRec) (r : Report) (fresh : Bool) : State :=
  if c.ranOut && fresh && decide (r.status = .running) then s.faultClaim c .noStop else s

/-! ## The steps of R123 -/

/-- Step 6 of R123, by the claim's state: the state after it, and whether it starts a pass (R41, R43). -/
def State.progress (s : State) (c : ClaimRec) (n : Nat) (k : Content) (r : Report) (fresh takes : Bool) : State × Bool :=
  match c.state with
  | .granted => (s.takeStep c n k takes, false)
  | .moving =>
    if c.supMembers.all (s.memberArrived c) then (s.arrival c, true) else (s.stallProgress c, false)
  | .held => ((s.takeStep c n k takes).stopStep c r fresh, false)
  | .retiring =>
    if c.supMembers.all SupMember.restedFresh then (s.removeLive c (.at c.freshPositions), true)
    else (s.stopStep c r fresh, false)
  | .waiting => (s, false)
  | .arrived => (s, false)
  | .standing => (s, false)
  | .faulted => (s, false)

/-- Steps 1 to 6 of R123 for a valid report of a live claim that is not FAULTED. -/
def State.supervise (s : State) (c : ClaimRec) (x : TravelNote) (r : Report) (fresh : Bool) : State × Bool :=
  let c1 := c.positioned x.set r fresh
  let s1 := s.updClaim c.number fun _ => c1
  match (s.setRec x.set).setup.bind fun u => s.reportFault c1 u r with
  | some k => (s1.faultClaim c1 k, false)
  | none => s1.progress c1 x.set x.content r fresh (fresh && decide (x.echo = x.toggle))

/-- A report forwarded to the Set Registry after the claim's part, and then the pass that either starts (R69, R123). -/
def State.forward (p : State × Bool) (n : Nat) (r : Report) : State :=
  passIf (p.2 || p.1.reportTrusts n r) (p.1.registryReport n r)

/-- A miss of a station of a live claim takes part in the take window alone (R122, R125). -/
def State.travelMiss (s : State) (c : ClaimRec) (x : TravelNote) : State :=
  if c.state = .granted ∨ c.state = .held then s.takeStep c x.set x.content false else s

/-- The Travel Monitor takes a poll outcome (R122, R123, R144). `fresh` says that the report is taken
fresh (Bus.takesFresh). Where the claim has gone, the outcome is passed to the Set Registry. -/
def State.travel (s : State) (x : TravelNote) (fresh : Bool) : State :=
  match s.liveClaim (s.moverOf x.set), x.report with
  | none, none => s
  | none, some r => s.takeReport x.set r
  | some c, none => s.travelMiss c x
  | some c, some r =>
    if c.state = .faulted then State.forward (s, false) x.set r
    else State.forward (s.supervise c x r fresh) x.set r

/-- The notice that the fresh flag of set `n`'s station was cleared: the member's fresh report is emptied (R124). -/
def State.freshCleared (s : State) (n : Nat) : State :=
  match s.liveClaim (s.moverOf n) with
  | none => s
  | some c => s.updClaim c.number fun y => y.updSup fun x => x.updMember n fun m => { m with fresh := none }

end Sys2Proof.Machine
end

