-- ==== Sys2Proof/Machine/BusEvents.lean ====
section
/-! DEFINITION. Polls: the build (R96, R100 to R103), the judging of reports and misses (R97, R104 to R109), and the hand-offs taken by the other blocks (R104, R107, R187). -/

namespace Sys2Proof.Machine

/-! ## The next station of a round (R100, R101) -/

/-- The station at `a` is passed over: it is not configured, or stopped being configured during the round (R100). -/
def passedOver (b : Bus) (r : Round) (a : Nat) : Bool := (b.station a).set.isNone || decide (a ∈ r.gone)

/-- The addresses of an idle part that begins with idle pointer `p` and slice `k` (R101). -/
def idlePart (p k : Nat) (idle : List Nat) : List Nat :=
  ((idle.filter fun a => decide (p < a)) ++ idle.filter fun a => decide (a ≤ p)).take k

/-- The idle addresses left once the idle part has begun. -/
def idleRest (b : Bus) (r : Round) : List Nat := r.idleLeft.getD (idlePart b.idlePointer b.idleSlice r.idle)

/-- The idle pointer after the leading addresses of an idle part have been passed over (R100). -/
def pointerAfter (b : Bus) (r : Round) (as : List Nat) : Nat :=
  ((as.takeWhile (passedOver b r)).getLast?).getD b.idlePointer

/-- What a build finds to poll: the address, whether it is of the idle part, the round after it, and the idle pointer. -/
structure Turn where
  address : Nat
  idlePart : Bool
  round : Round
  pointer : Nat
  deriving DecidableEq, Repr

/-- The next station of the idle part; none where no station is left to poll. -/
def idleTurn (b : Bus) (r : Round) : Option Turn :=
  match (idleRest b r).dropWhile (passedOver b r) with
  | [] => none
  | a :: as =>
    some { address := a, idlePart := true, round := { r with activeLeft := [], idleLeft := some as }
           pointer := pointerAfter b r (idleRest b r) }

/-- The next station of a round: the active part, then the idle part (R101). -/
def nextTurn (b : Bus) (r : Round) : Option Turn :=
  match r.activeLeft.dropWhile (passedOver b r) with
  | a :: as => some { address := a, idlePart := false, round := { r with activeLeft := as }, pointer := b.idlePointer }
  | [] => idleTurn b r

/-- The idle pointer where a round ends with stations passed over (R100). -/
def pointerAtEnd (b : Bus) (r : Round) : Nat := pointerAfter b r (idleRest b r)

/-- The next station: of the round in progress where it has one left, and otherwise of a new round, whose lists are formed
from the records as they stand (R100, R101). -/
def State.nextStation (s : State) (b : Bus) : Option Turn :=
  match b.round with
  | none => nextTurn b (s.formRound b)
  | some r =>
    match nextTurn b r with
    | some t => some t
    | none => nextTurn { b with idlePointer := pointerAtEnd b r } (s.formRound b)

/-! ## The build -/

/-- The toggle a frame of content `k` is sent with (R103). -/
def Station.nextToggle (x : Station) (k : Content) : Bool :=
  if x.lastContent.any fun c => decide (c ≠ k) then !x.toggle else x.toggle

/-- A controller after the build of a poll of turn `t` for set `n` with content `k` (R96, R103). -/
def Bus.build (b : Bus) (t : Turn) (n : Nat) (k : Content) : Bus :=
  let x := b.station t.address
  let g := x.nextToggle k
  { b.putStation t.address { x with toggle := g, lastContent := some k } with
    idlePointer := t.pointer
    round := some t.round
    poll := some { address := t.address, set := n, content := k, toggle := g, idlePart := t.idlePart, orphaned := false
                   sent := frameChars t.address k g } }

/-- POLL_BUILD on segment `f` (R96): only in POLLING with no poll in progress. -/
def State.pollBuild (s : State) (f : Segment) : State :=
  let b := s.bus f
  if b.state = .polling ∧ b.poll = none then
    match s.nextStation b with
    | none => s
    | some t =>
      match (b.station t.address).set with
      | none => s
      | some n => s.putBus f (b.build t n (s.contentFor n))
  else s

/-! ## The judging -/

/-- A round has no station left (R101). -/
def Round.over (r : Round) : Bool := r.activeLeft.isEmpty && (r.idleLeft.getD r.idle).isEmpty

/-- The poll in progress ended: an idle poll sets the idle pointer, and the last poll ends the round (R101; log entries 12,
13). -/
def Bus.endPoll (b : Bus) (p : Poll) : Bus :=
  { b with
    poll := none
    idlePointer := if p.idlePart then p.address else b.idlePointer
    round := b.round.filter fun r => !r.over }

/-- A poll outcome for the Travel Monitor (R122): a valid report where one is given. -/
def Poll.travel (p : Poll) (report : Option Report) (echo : Bool) : TravelNote :=
  { set := p.set, address := p.address, report := report, miss := none, echo := echo, toggle := p.toggle, content := p.content }

/-- A miss of kind `k` for the Travel Monitor (R122). -/
def Poll.travelMiss (p : Poll) (k : MissKind) : TravelNote := { p.travel none false with miss := some k }

/-- A station record after a miss (R97, R108): the third clears the fresh flag (R109). -/
def Station.miss (x : Station) (k : MissKind) : Station :=
  { x with
    missCount := min Config.staleMisses (x.missCount + 1)
    lastOutcome := some (.miss k)
    fresh := if x.missCount + 1 = Config.staleMisses then false else x.fresh }

/-- The notice of a fresh flag, held as `held` until then, that a miss clears at the STALE finding, for a live claim (R108, R109). -/
def Poll.staleNotices (p : Poll) (held live stale : Bool) : List FreshNotice :=
  if live && stale then [{ set := p.set, address := p.address, held := held }] else []

/-- The hand-offs of a miss of kind `k`: MISS to the Attention Unit, the miss with its kind to the Travel Monitor for a live
claim, and the notices of a fresh flag cleared (R105, R107, R108, R122). -/
def Bus.handMiss (b : Bus) (p : Poll) (k : MissKind) (live : Bool) (cleared : List FreshNotice) : Bus :=
  { b with
    outcomes := b.outcomes ++ [{ set := p.set, cls := .miss, raw := none }]
    tmOutcomes := if live then b.tmOutcomes ++ [p.travelMiss k] else b.tmOutcomes
    freshNotices := b.freshNotices ++ cleared }

/-- The STALE finding handed to one block, chosen from the records as they stand (R109). -/
def State.staleFinding (s : State) (n : Nat) : State :=
  match s.liveClaim (s.moverOf n) with
  | some c => s.faultClaim c .stale
  | none => s.registryStale n

/-- A miss judged for poll `p` (R97, R108, R109). -/
def State.judgeMiss (s : State) (f : Segment) (p : Poll) (k : MissKind) : State :=
  let x := (s.bus f).station p.address
  let stale := decide (x.missCount + 1 = Config.staleMisses)
  let live := s.isLive p.set
  let s1 := s.updBus f fun b =>
    ((b.endPoll p).putStation p.address (x.miss k)).handMiss p k live (p.staleNotices x.fresh live stale)
  if stale then s1.staleFinding p.set else s1

/-- The poll in progress on a POLLING segment judged by `g`; a poll whose station has stopped being configured is discarded
(R98). -/
def State.onPoll (s : State) (f : Segment) (g : Poll → State) : State :=
  match (s.bus f).state, (s.bus f).poll with
  | .polling, some p => if p.orphaned then s.updBus f fun b => b.endPoll p else g p
  | .polling, none => s
  | .idle, _ => s
  | .broken, _ => s
  | .loop, _ => s

/-- A poll ended by a miss of kind `k` (R97). -/
def State.missPoll (s : State) (f : Segment) (k : MissKind) : State := s.onPoll f fun p => s.judgeMiss f p k

/-! ## Reports (R104 to R107, R194) -/

/-- The form byte of a report: marker, ignored bits, toggle echo (R194). -/
def formByte (marker : BitVec 4) (ignored : BitVec 3) (echo : Bool) : Byte := BitVec.ofBool echo ++ ignored ++ marker

/-- The characters of a report before its check byte (R194). -/
def reportData : WireReport → List Byte
  | .ordinary a echo ig st pos vel load _ =>
    [a, formByte 1#4 ig echo, st] ++ bytes16 pos ++ bytes16 vel ++ bytes16 load
  | .ident a echo ig k serial _ => [a, formByte 2#4 ig echo, k] ++ bytes32 serial

/-- The check byte of a report. -/
def reportCheck : WireReport → Byte
  | .ordinary _ _ _ _ _ _ _ c => c
  | .ident _ _ _ _ _ c => c

/-- The address echo of a report. -/
def reportAddress : WireReport → Byte
  | .ordinary a _ _ _ _ _ _ _ => a
  | .ident a _ _ _ _ _ => a

/-- The form is the one expected: IDENT answers IDENTIFY, ordinary answers every other command (R97). -/
def formExpected (k : BusCommand) : WireReport → Bool
  | .ordinary _ _ _ _ _ _ _ _ => decide (k ≠ .identify)
  | .ident _ _ _ _ _ _ => decide (k = .identify)

/-- The miss kind of a completed report: the first line of the table of R97 that holds; none for a valid report. -/
def reportMiss (p : Poll) (r : WireReport) : Option MissKind :=
  if crc8 (reportData r) ≠ reportCheck r then some .badCheck
  else if (reportAddress r).toNat ≠ p.address then some .wrongAddress
  else if !formExpected p.content.command r then some .wrongForm
  else none

/-- The outcome class of a status (R105). -/
def Status.outcome : Status → OutcomeClass
  | .ready => .healthy
  | .running => .healthy
  | .stopping => .healthy
  | .braked => .healthy
  | .overload => .overload
  | .slack => .slack
  | .overspeed => .overspeed
  | .limit => .limit
  | .drive => .drive

/-- A station record after a valid report (R104). -/
def Station.answered (x : Station) : Station := { x with missCount := 0, fresh := true, lastOutcome := some .valid }

/-- The raw code of an unknown status (R105). -/
def rawOf (b : Byte) : Option Byte := if (statusOf? b).isNone then some b else none

/-- The content of an ordinary report: an unknown code is taken as DRIVE (R105). -/
def reportOf (st : Byte) (pos vel load : Word16) : Report :=
  { status := (statusOf? st).getD .drive, position := pos.toInt, velocity := vel.toInt, load := load.toNat }

/-- The hand-offs of a valid ordinary report: its class to the Attention Unit, its content to the Travel Monitor for a live
claim and to the Set Registry otherwise (R104, R105, R107). -/
def Bus.handReport (b : Bus) (p : Poll) (live : Bool) (r : Report) (raw : Option Byte) (echo : Bool) : Bus :=
  { b with
    outcomes := b.outcomes ++ [{ set := p.set, cls := r.status.outcome, raw := raw }]
    tmOutcomes := if live then b.tmOutcomes ++ [p.travel (some r) echo] else b.tmOutcomes
    setReports := if live then b.setReports else b.setReports ++ [{ set := p.set, report := r }] }

/-- The hand-offs of a valid IDENT report (R104, R105, R106). -/
def Bus.handIdent (b : Bus) (p : Poll) (k : Nat) : Bus :=
  { b with
    outcomes := b.outcomes ++ [{ set := p.set, cls := .healthy, raw := none }]
    identReports := b.identReports ++ [{ set := p.set, commissioned := k }] }

/-- A controller after a valid report of poll `p` (R104, R106). -/
def Bus.accept (b : Bus) (p : Poll) (live : Bool) (r : WireReport) : Bus :=
  let x := b.station p.address
  match r with
  | .ordinary _ echo _ st pos vel load _ =>
    ((b.endPoll p).putStation p.address x.answered).handReport p live (reportOf st pos vel load) (rawOf st) echo
  | .ident _ _ _ k serial _ =>
    ((b.endPoll p).putStation p.address { x.answered with identity := some (k.toNat, serial) }).handIdent p k.toNat

/-- REPORT_COMPLETE on segment `f` (R104). -/
def State.reportComplete (s : State) (f : Segment) (r : WireReport) : State :=
  s.onPoll f fun p =>
    match reportMiss p r with
    | some k => s.judgeMiss f p k
    | none => s.updBus f fun b => b.accept p (s.isLive p.set) r

/-- The miss kind of an unreadable report (R97, R194). -/
def missOf : Unreadable → MissKind
  | .badCharacter => .badCharacter
  | .wrongForm => .wrongForm

/-! ## The hand-offs taken -/

/-- The Attention Unit takes the oldest outcome class of segment `f` (R187). A class judged before its set was released and
taken after it is recorded too (log entry 37). -/
def State.takeOutcome (s : State) (f : Segment) : State :=
  match (s.bus f).outcomes with
  | [] => s
  | x :: xs =>
    let s1 := s.updBus f fun b => { b with outcomes := xs }
    s1.putFaultSummary x.set ((s1.faultSummary x.set).take x.cls x.raw)

/-- The Set Registry takes the oldest ordinary report of segment `f` (R9). -/
def State.takeSetReport (s : State) (f : Segment) : State :=
  match (s.bus f).setReports with
  | [] => s
  | x :: xs => (s.updBus f fun b => { b with setReports := xs }).takeReport x.set x.report

/-- The Set Registry takes the oldest IDENT report of segment `f` (R11). -/
def State.takeIdent (s : State) (f : Segment) : State :=
  match (s.bus f).identReports with
  | [] => s
  | x :: xs => (s.updBus f fun b => { b with identReports := xs }).registryIdent x.set x.commissioned

/-- A report of the station of set `n` at address `a`, taken now, is taken fresh: the controller holds the station's fresh flag
(R122), or held it until a clearing whose notice the Travel Monitor has not taken yet, so that the report comes first (R124; log
entry 5). -/
def Bus.takesFresh (b : Bus) (n a : Nat) : Bool :=
  (b.station a).fresh || b.freshNotices.any fun y => y.held && decide (y.set = n) && decide (y.address = a)

/-- The Travel Monitor takes the oldest poll outcome of segment `f` (R122, R124). -/
def State.takeTravel (s : State) (f : Segment) : State :=
  match (s.bus f).tmOutcomes with
  | [] => s
  | x :: xs =>
    let s1 := s.updBus f fun b => { b with tmOutcomes := xs }
    s1.travel x ((s1.bus f).takesFresh x.set x.address)

/-- The Travel Monitor takes the oldest fresh-flag notice of segment `f` (R124). -/
def State.takeFreshNotice (s : State) (f : Segment) : State :=
  match (s.bus f).freshNotices with
  | [] => s
  | x :: xs => (s.updBus f fun b => { b with freshNotices := xs }).freshCleared x.set

end Sys2Proof.Machine
end

