-- ==== Sys2Proof/Machine/PinEvents.lean ====
section
/-! DEFINITION. The emergency-stop channels (R154), cold reset, and the meanings of the fly bus events. -/

namespace Sys2Proof.Machine

/-! ## The emergency-stop pair -/

/-- The state of a channel, true for ACTIVE (R153). -/
def StopRec.channel (x : StopRec) : Channel → Bool
  | .a => x.channelA
  | .b => x.channelB

/-- A channel changed, and the discrepancy timer with it: it starts where the channels now disagree and is discarded where
they agree (R154, R155). -/
def StopRec.putChannel (x : StopRec) (c : Channel) (b : Bool) : StopRec :=
  let y := match c with
    | .a => { x with channelA := b }
    | .b => { x with channelB := b }
  { y with discrepancy := if y.channelA = y.channelB then none else some 0 }

/-- A level change of a channel taken (R154): a channel becoming ACTIVE enters STOPPED from RUN or LATCHED, and the last one
becoming INACTIVE enters LATCHED from STOPPED. A level that is the one held is no change. -/
def State.channelEvent (s : State) (c : Channel) (low : Bool) : State :=
  if s.stop.channel c = low then s
  else
    let s1 := s.updStop fun x => x.putChannel c low
    if low then if s1.stop.state = .stopped then s1 else s1.enterStopped
    else if s1.stop.state = .stopped ∧ s1.stop.clear then s1.enterLatched
    else s1

/-- ESTOP_CHANNEL_EVENT (R154). -/
def execEstopChannelEvent (c : Channel) (low : Bool) (s : State) : Host.Outcome State Fault Refusal :=
  .next (s.channelEvent c low)

/-- COLD_RESET with the pins as they stand (R28, R62, R66, R77, R94, R120, R145, R163, R166, R180, R190). The queue of commands is
no part of the block and is kept (log entry 27). -/
def execColdReset (pins : ResetPins) (s : State) : Host.Outcome State Fault Refusal := .next (State.coldReset pins s.pending)

/-! ## Fly bus events -/

/-- POLL_BUILD (R96). -/
def execPollBuild (f : Segment) (s : State) : Host.Outcome State Fault Refusal := .next (s.pollBuild f)

/-- RESPONSE_WINDOW_EXPIRY (R96): a miss of kind NO_ANSWER. -/
def execResponseWindowExpiry (f : Segment) (s : State) : Host.Outcome State Fault Refusal := .next (s.missPoll f .noAnswer)

/-- REPORT_GAP_EXPIRY (R97): a miss of kind INCOMPLETE. -/
def execReportGapExpiry (f : Segment) (s : State) : Host.Outcome State Fault Refusal := .next (s.missPoll f .incomplete)

/-- REPORT_COMPLETE (R104). -/
def execReportComplete (f : Segment) (r : WireReport) (s : State) : Host.Outcome State Fault Refusal :=
  .next (s.reportComplete f r)

/-- REPORT_UNREADABLE (R97). -/
def execReportUnreadable (f : Segment) (why : Unreadable) (s : State) : Host.Outcome State Fault Refusal :=
  .next (s.missPoll f (missOf why))

/-- SET_REPORT (R9). -/
def execSetReport (f : Segment) (s : State) : Host.Outcome State Fault Refusal := .next (s.takeSetReport f)

/-- IDENT_REPORT (R11). -/
def execIdentReport (f : Segment) (s : State) : Host.Outcome State Fault Refusal := .next (s.takeIdent f)

/-- FAULT_SUMMARY_OUTCOME (R187). -/
def execFaultSummaryOutcome (f : Segment) (s : State) : Host.Outcome State Fault Refusal := .next (s.takeOutcome f)

/-- TM_POLL_OUTCOME (R123). -/
def execTmPollOutcome (f : Segment) (s : State) : Host.Outcome State Fault Refusal := .next (s.takeTravel f)

/-- FRESH_FLAG_CLEARED_NOTICE (R124). -/
def execFreshFlagClearedNotice (f : Segment) (s : State) : Host.Outcome State Fault Refusal := .next (s.takeFreshNotice f)

/-- BREAK_DETECTED (R110). -/
def execBreakDetected (f : Segment) (s : State) : Host.Outcome State Fault Refusal := .next (s.breakDetected f)

/-- BREAK_END (R112). -/
def execBreakEnd (f : Segment) (s : State) : Host.Outcome State Fault Refusal := .next (s.breakEnd f)

/-- TEST_FRAME_COMPARED (R114). -/
def execTestFrameCompared (f : Segment) (returned : List (Option LineChar)) (s : State) : Host.Outcome State Fault Refusal :=
  .next (s.testFrame f returned)

end Sys2Proof.Machine
end

