-- ==== Sys2Proof/Machine/Timers.lean ====
section
/-! DEFINITION. Time: every running timer advanced, and the expiry of each (R73, R74, R85, R131, R132, R134, R140, R155, R175; log entries 2 to 4). -/

namespace Sys2Proof.Machine

/-! ## Time passes -/

/-- The timers of a supervision record after `ms` milliseconds (R121). -/
def Supervision.elapse (ms : Nat) (x : Supervision) : Supervision :=
  { x with
    stall := x.stall.map fun e => e + ms
    stopWindow := match x.stopWindow with
      | .running e => .running (e + ms)
      | .stopped => .stopped
      | .runOut => .runOut
    deadline := match x.deadline with
      | .running r => .running (r - ms)
      | .paused r => .paused r
      | .absent => .absent }

/-- The timers of a claim after `ms` milliseconds (R73, R121). -/
def ClaimRec.elapse (ms : Nat) (c : ClaimRec) : ClaimRec :=
  { c with waitTimer := c.waitTimer.map fun e => e + ms, sup := c.sup.map (Supervision.elapse ms) }

/-- The timer of a group after `ms` milliseconds (R85). -/
def GroupRec.elapse (ms : Nat) (x : GroupRec) : GroupRec := { x with timer := x.timer.map fun e => e + ms }

/-- The presence timer of a link after `ms` milliseconds (R174). -/
def LinkRec.elapse (ms : Nat) (x : LinkRec) : LinkRec :=
  { x with presenceTimer := x.presenceTimer.map fun t => { t with elapsed := t.elapsed + ms } }

/-- The discrepancy timer after `ms` milliseconds (R155). -/
def StopRec.elapse (ms : Nat) (x : StopRec) : StopRec := { x with discrepancy := x.discrepancy.map fun e => e + ms }

/-- Every running timer of the part advanced by `ms` milliseconds. -/
def State.elapse (ms : Nat) (s : State) : State :=
  { s with
    claims := s.claims.map (ClaimRec.elapse ms)
    groups := s.groups.map (Option.map (GroupRec.elapse ms))
    stop := s.stop.elapse ms
    links := { dl0 := s.links.dl0.elapse ms, dl1 := s.links.dl1.elapse ms, dl2 := s.links.dl2.elapse ms } }

/-! ## Lengths -/

/-- The stall window of a claim: the least of its members' (R131). -/
def State.stallWindow (s : State) (m : Mover) : Nat :=
  (((s.members m).filterMap fun n => (s.setRec n).setup.map fun u => u.rig.stallWindow).min?).getD 0

/-- The length of a claim's stop window: twice the largest stop constant of its members (R132). -/
def State.stopLength (s : State) (m : Mover) : Nat :=
  2 * (((s.members m).filterMap fun n => (s.setRec n).setup.map fun u => u.rig.stopConstant).max?).getD 0

/-! ## Expiries -/

/-- The elapsed time of a claim's stall timer while the claim is in MOVING (R131). -/
def ClaimRec.stallElapsed (c : ClaimRec) : Option Nat :=
  if c.state = .moving then c.sup.bind Supervision.stall else none

/-- STALL_TIMER_EXPIRY for claim `n` (R131). -/
def State.stallExpiry (s : State) (n : Nat) : State :=
  match s.claim? n with
  | none => s
  | some c =>
    match c.stallElapsed with
    | none => s
    | some e => (s.elapse (s.stallWindow c.mover - e)).faultClaim c .stall

/-- The elapsed time of a claim's running stop window in HELD or RETIRING (R132). -/
def ClaimRec.stopElapsed (c : ClaimRec) : Option Nat :=
  match c.sup.map Supervision.stopWindow with
  | some (.running e) => if c.state = .held ∨ c.state = .retiring then some e else none
  | some .stopped => none
  | some .runOut => none
  | none => none

/-- Some member's fresh report has status RUNNING (R134). -/
def ClaimRec.someRunning (c : ClaimRec) : Bool :=
  ((c.sup.map Supervision.members).getD []).any fun m => m.fresh.any fun r => decide (r.status = .running)

/-- STOP_WINDOW_RUN_OUT for claim `n` (R132, R134). -/
def State.stopRunOut (s : State) (n : Nat) : State :=
  match s.claim? n with
  | none => s
  | some c =>
    match c.stopElapsed with
    | none => s
    | some e =>
      let s1 := s.elapse (s.stopLength c.mover - e)
      let s2 := s1.updClaim n fun x => { x with sup := x.sup.map fun y => { y with stopWindow := .runOut } }
      if c.someRunning then s2.faultClaim c .noStop else s2

/-- The time left on a claim's running deadline timer (R140). -/
def ClaimRec.deadlineLeft (c : ClaimRec) : Option Nat :=
  match c.sup.map Supervision.deadline with
  | some (.running r) => some r
  | some (.paused _) => none
  | some .absent => none
  | none => none

/-- A claim record at the expiry of its deadline: late, its timer discarded (R140). -/
def ClaimRec.markLate (c : ClaimRec) : ClaimRec :=
  { c with late := true, sup := c.sup.map fun y => { y with deadline := .absent } }

/-- DEADLINE_EXPIRY for claim `n` (R140). -/
def State.deadlineExpiry (s : State) (n : Nat) : State :=
  match s.claim? n with
  | none => s
  | some c =>
    match c.deadlineLeft with
    | none => s
    | some r => latch .late ((s.elapse r).updClaim n ClaimRec.markLate)

/-- The elapsed time of a WAITING claim's wait-limit timer (R73). -/
def ClaimRec.waitElapsed (c : ClaimRec) : Option Nat := if c.state = .waiting then c.waitTimer else none

/-- WAIT_LIMIT_EXPIRY for claim `n` (R74). -/
def State.waitExpiry (s : State) (n : Nat) : State :=
  match s.claim? n with
  | none => s
  | some c =>
    match c.waitElapsed with
    | none => s
    | some e => latch .waitExpired ((s.elapse (100 * c.waitLimit.getD 0 - e)).removeWaiting c)

/-- The elapsed time of a READY group's wait-limit timer (R85). -/
def GroupRec.waitElapsed (x : GroupRec) : Option Nat := if x.state = .ready then x.timer else none

/-- GROUP_WAIT_LIMIT_EXPIRY for group `g` (R85). -/
def State.groupExpiry (s : State) (g : Nat) : State :=
  match s.group? g with
  | none => s
  | some x =>
    match x.waitElapsed with
    | none => s
    | some e => latch .waitExpired ((s.elapse (100 * x.waitLimit.getD 0 - e)).dissolveGroup g x)

/-- The running presence timer of a PRESENT link (R174). -/
def LinkRec.runningTimer (x : LinkRec) : Option PresenceTimer := if x.presence = .present then x.presenceTimer else none

/-- PRESENCE_WINDOW_EXPIRY for link `l` (R175). -/
def State.presenceExpiry (s : State) (l : Link) : State :=
  match (s.link l).runningTimer with
  | none => s
  | some t => (s.elapse (t.window - t.elapsed)).loseDesk l

/-- DISCREPANCY_TIMER_EXPIRY (R155). -/
def State.discrepancyExpiry (s : State) : State :=
  match s.stop.discrepancy with
  | none => s
  | some e =>
    latch .discrepancy ((s.elapse (Config.discrepancyMs - e)).updStop fun x => { x with mark := true, discrepancy := none })

/-! ## The meanings of the timer events -/

/-- PRESENCE_WINDOW_EXPIRY (R175). -/
def execPresenceWindowExpiry (l : Link) (s : State) : Host.Outcome State Fault Refusal := .next (s.presenceExpiry l)

/-- STALL_TIMER_EXPIRY (R131). -/
def execStallTimerExpiry (claim : Nat) (s : State) : Host.Outcome State Fault Refusal := .next (s.stallExpiry claim)

/-- STOP_WINDOW_RUN_OUT (R134). -/
def execStopWindowRunOut (claim : Nat) (s : State) : Host.Outcome State Fault Refusal := .next (s.stopRunOut claim)

/-- DEADLINE_EXPIRY (R140). -/
def execDeadlineExpiry (claim : Nat) (s : State) : Host.Outcome State Fault Refusal := .next (s.deadlineExpiry claim)

/-- WAIT_LIMIT_EXPIRY (R74). -/
def execWaitLimitExpiry (claim : Nat) (s : State) : Host.Outcome State Fault Refusal := .next (s.waitExpiry claim)

/-- GROUP_WAIT_LIMIT_EXPIRY (R85). -/
def execGroupWaitLimitExpiry (group : Nat) (s : State) : Host.Outcome State Fault Refusal := .next (s.groupExpiry group)

/-- DISCREPANCY_TIMER_EXPIRY (R155). -/
def execDiscrepancyTimerExpiry (s : State) : Host.Outcome State Fault Refusal := .next s.discrepancyExpiry

end Sys2Proof.Machine
end

