-- ==== Sys2Proof/Machine/Dispatch.lean ====
section
/-! DEFINITION. The meaning of each command, one arm for each constructor. -/

namespace Sys2Proof.Machine

/-- The effect of a command on everything but the queue. -/
def exec (i : Instr) (s : State) : Host.Outcome State Fault Refusal :=
  match i with
  | .presence l tag => Sys2Proof.Machine.execPresence l tag s
  | .stop l tag => Sys2Proof.Machine.execStop l tag s
  | .holdAll l tag => Sys2Proof.Machine.execHoldAll l tag s
  | .holdClaim l tag claim => Sys2Proof.Machine.execHoldClaim l tag claim s
  | .releaseAll l tag => Sys2Proof.Machine.execReleaseAll l tag s
  | .resume l tag => Sys2Proof.Machine.execResume l tag s
  | .claim l tag q => Sys2Proof.Machine.execClaim l tag q s
  | .retarget l tag q => Sys2Proof.Machine.execRetarget l tag q s
  | .retire l tag claim => Sys2Proof.Machine.execRetire l tag claim s
  | .releaseClaim l tag claim => Sys2Proof.Machine.execReleaseClaim l tag claim s
  | .addKeepout l tag q => Sys2Proof.Machine.execAddKeepout l tag q s
  | .retireKeepout l tag keepout => Sys2Proof.Machine.execRetireKeepout l tag keepout s
  | .warmRestart l tag => Sys2Proof.Machine.execWarmRestart l tag s
  | .adopt l tag source => Sys2Proof.Machine.execAdopt l tag source s
  | .lookupClaim l tag claim => Sys2Proof.Machine.execLookupClaim l tag claim s
  | .listClaims l tag q => Sys2Proof.Machine.execListClaims l tag q s
  | .lookupKeepout l tag keepout => Sys2Proof.Machine.execLookupKeepout l tag keepout s
  | .openGroup l tag q => Sys2Proof.Machine.execOpenGroup l tag q s
  | .closeGroup l tag group => Sys2Proof.Machine.execCloseGroup l tag group s
  | .cancelGroup l tag group => Sys2Proof.Machine.execCancelGroup l tag group s
  | .lookupGroup l tag group => Sys2Proof.Machine.execLookupGroup l tag group s
  | .configureSet l tag q => Sys2Proof.Machine.execConfigureSet l tag q s
  | .releaseSet l tag set => Sys2Proof.Machine.execReleaseSet l tag set s
  | .rehang l tag q => Sys2Proof.Machine.execRehang l tag q s
  | .lockHang l tag set => Sys2Proof.Machine.execLockHang l tag set s
  | .unlockHang l tag set => Sys2Proof.Machine.execUnlockHang l tag set s
  | .reinstate l tag set => Sys2Proof.Machine.execReinstate l tag set s
  | .bind l tag q => Sys2Proof.Machine.execBind l tag q s
  | .unbind l tag bond => Sys2Proof.Machine.execUnbind l tag bond s
  | .lookupSet l tag set => Sys2Proof.Machine.execLookupSet l tag set s
  | .lookupBond l tag bond => Sys2Proof.Machine.execLookupBond l tag bond s
  | .readDigest l tag => Sys2Proof.Machine.execReadDigest l tag s
  | .loopTest l tag segment => Sys2Proof.Machine.execLoopTest l tag segment s
  | .lookupSegment l tag segment => Sys2Proof.Machine.execLookupSegment l tag segment s
  | .lookupStation l tag segment address => Sys2Proof.Machine.execLookupStation l tag segment address s
  | .clearAttention l tag q => Sys2Proof.Machine.execClearAttention l tag q s
  | .clearFaults l tag set => Sys2Proof.Machine.execClearFaults l tag set s
  | .readAttention l tag => Sys2Proof.Machine.execReadAttention l tag s
  | .setParameter l tag p value => Sys2Proof.Machine.execSetParameter l tag p value s
  | .readParameter l tag p => Sys2Proof.Machine.execReadParameter l tag p s
  | .unknownRequest l tag kind => Sys2Proof.Machine.execUnknownRequest l tag kind s
  | .deskFrameBegin l first => Sys2Proof.Machine.execDeskFrameBegin l first s
  | .deskFrameEnd l rest framingError => Sys2Proof.Machine.execDeskFrameEnd l rest framingError s
  | .postedRequestTaken l => Sys2Proof.Machine.execPostedRequestTaken l s
  | .priorityRequestTaken l => Sys2Proof.Machine.execPriorityRequestTaken l s
  | .responseTransmitStart l => Sys2Proof.Machine.execResponseTransmitStart l s
  | .responseTransmitEnd l => Sys2Proof.Machine.execResponseTransmitEnd l s
  | .presenceWindowExpiry l => Sys2Proof.Machine.execPresenceWindowExpiry l s
  | .pollBuild f => Sys2Proof.Machine.execPollBuild f s
  | .responseWindowExpiry f => Sys2Proof.Machine.execResponseWindowExpiry f s
  | .reportGapExpiry f => Sys2Proof.Machine.execReportGapExpiry f s
  | .reportComplete f r => Sys2Proof.Machine.execReportComplete f r s
  | .setReport f => Sys2Proof.Machine.execSetReport f s
  | .identReport f => Sys2Proof.Machine.execIdentReport f s
  | .faultSummaryOutcome f => Sys2Proof.Machine.execFaultSummaryOutcome f s
  | .tmPollOutcome f => Sys2Proof.Machine.execTmPollOutcome f s
  | .freshFlagClearedNotice f => Sys2Proof.Machine.execFreshFlagClearedNotice f s
  | .stallTimerExpiry claim => Sys2Proof.Machine.execStallTimerExpiry claim s
  | .stopWindowRunOut claim => Sys2Proof.Machine.execStopWindowRunOut claim s
  | .deadlineExpiry claim => Sys2Proof.Machine.execDeadlineExpiry claim s
  | .waitLimitExpiry claim => Sys2Proof.Machine.execWaitLimitExpiry claim s
  | .groupWaitLimitExpiry group => Sys2Proof.Machine.execGroupWaitLimitExpiry group s
  | .estopChannelEvent c low => Sys2Proof.Machine.execEstopChannelEvent c low s
  | .discrepancyTimerExpiry => Sys2Proof.Machine.execDiscrepancyTimerExpiry s
  | .breakDetected f => Sys2Proof.Machine.execBreakDetected f s
  | .breakEnd f => Sys2Proof.Machine.execBreakEnd f s
  | .testFrameCompared f returned => Sys2Proof.Machine.execTestFrameCompared f returned s
  | .coldReset pins => Sys2Proof.Machine.execColdReset pins s
  | .reportUnreadable f why => Sys2Proof.Machine.execReportUnreadable f why s

end Sys2Proof.Machine
end

