-- ==== Sys2Proof/Machine/Lines.lean ====
section
/-! DEFINITION. The lines as views of the records: FBn_DE and FBn_TXD bit time by bit time (R95, R96, R110, R114, R120), the characters of a desk link on DLn_TXD, and the rows a received desk frame spells (R164). -/

namespace Sys2Proof.Machine

/-! ## The fly bus (R95) -/

/-- The characters a controller drives onto its line: those of the poll in progress, in POLLING alone (R95, R96). In IDLE,
BROKEN and LOOP it drives none; the frames of a loop test take the internal return path (R114). -/
def Bus.driven (b : Bus) : List LineChar :=
  match b.state with
  | .polling => (b.poll.map Poll.sent).getD []
  | .idle => []
  | .broken => []
  | .loop => []

/-- FBn_DE at bit time `k` after the start bit of the poll's address character: asserted to the stop bit of the grant frame's
last character, and released for the report and while nothing is sent (R95). -/
def Bus.de (b : Bus) (k : Nat) : Bool := decide (k < 11 * b.driven.length)

/-- FBn_TXD at bit time `k`, true for marking: each character's start bit first, and marking beyond the last (R95). -/
def Bus.txd (b : Bus) (k : Nat) : Bool := (b.driven[k / 11]?).all fun c => c.getLsbD (k % 11)

/-! ## The desk links (R164) -/

/-- A character of a desk line: ten bits, the first sent in bit 0. -/
abbrev DeskChar := BitVec 10

/-- A byte as a desk character: start bit, data bits least significant first, stop bit; no parity bit (R164). -/
def deskChar (b : Byte) : DeskChar := 1#1 ++ b ++ 0#1

/-- The byte of a received character (R164). -/
def DeskChar.byte (c : DeskChar) : Byte := c.extractLsb' 1 8

/-- A character whose stop bit is spacing is a framing error (R164). -/
def DeskChar.framingError (c : DeskChar) : Bool := !c.getLsbD 9

/-- The characters of the frame being sent, back to back (R164). -/
def LinkRec.sentChars (x : LinkRec) : List DeskChar := ((x.sending.map Sending.bytes).getD []).map deskChar

/-- DLn_TXD at bit time `k` after the start bit of the frame being sent, true for marking: marking beyond the frame and while
none is sent (R164). -/
def LinkRec.txd (x : LinkRec) (k : Nat) : Bool := (x.sentChars[k / 10]?).all fun c => c.getLsbD (k % 10)

/-- The two rows that stand for a frame received on link `l`, from its characters up to the gap that ends it: the frame is bad
where any of them holds a framing error (R164, R165; log entry 14). -/
def deskFrameRows (l : Link) : List DeskChar → List Instr
  | [] => []
  | c :: cs => [.deskFrameBegin l c.byte, .deskFrameEnd l (cs.map DeskChar.byte) ((c :: cs).any DeskChar.framingError)]

end Sys2Proof.Machine
end

