-- ==== Sys2Proof/Safety.lean ====
section
/-! DEFINITION. The terms of the statements: what a response leaves, what an image holds, what a stop, a hold and a release leave, the checks of a CLAIM, and the laws the part keeps. -/

namespace Sys2Proof.Machine

/-! ## Responses -/

/-- In `t` the queue of link `l` has one response more than in `s`: the answer `y` to a request of kind `kind` with tag
`tag`. Nothing else of any link differs. -/
def Answered (s t : State) (l : Link) (kind : Nat) (tag : Word16) (y : Reply) : Prop :=
  t.links = s.links.put l { s.link l with queue := (s.link l).queue ++ [t.response (byteOf kind) tag false y] }

/-- In `t` the priority response slot of link `l` holds the answer `y`. Nothing else of any link differs. -/
def AnsweredNow (s t : State) (l : Link) (kind : Nat) (tag : Word16) (y : Reply) : Prop :=
  t.links = s.links.put l { s.link l with priorityResponse := some (t.response (byteOf kind) tag false y) }

/-- A link of role FULL whose response queue has a free entry. -/
def FullDesk (s : State) (l : Link) : Prop := (s.link l).role = .full ∧ (s.link l).queue.length < 4

/-- A link of any role that answers frames, whose response queue has a free entry. -/
def OpenDesk (s : State) (l : Link) : Prop := (s.link l).role ≠ .off ∧ (s.link l).queue.length < 4

/-- A link of role FULL or HOLD whose priority response slot is empty. -/
def HoldDesk (s : State) (l : Link) : Prop :=
  ((s.link l).role = .full ∨ (s.link l).role = .hold) ∧ (s.link l).priorityResponse = none

/-- `t` is `s` but for one response more in the queue of link `l`: no other record differs. -/
def AnswerOnly (s t : State) (l : Link) (kind : Nat) (tag : Word16) (y : Reply) : Prop :=
  t = { s with links := t.links } ∧ Answered s t l kind tag y

/-- `t` is `s` but for the priority response of link `l`: no other record differs. -/
def AnswerOnlyNow (s t : State) (l : Link) (kind : Nat) (tag : Word16) (y : Reply) : Prop :=
  t = { s with links := t.links } ∧ AnsweredNow s t l kind tag y

/-! ## Images -/

/-- The bytes of a payload from offset `k` on are `bs`. -/
def BytesAt (p : List Byte) (k : Nat) (bs : List Byte) : Prop := (p.drop k).take bs.length = bs

/-- The position that a list gives for set `n`, zero where it gives none. -/
def shownAt (ps : List (Nat × Int)) (n : Nat) : Int := ((ps.find? fun q => decide (q.1 = n)).map Prod.snd).getD 0

/-- A region as an image shows it, zeros where there is none. -/
def shownRegion : Option Region → List Byte
  | none => List.replicate 8 0#8
  | some r => boundBytes r.depthLo ++ boundBytes r.depthHi ++ boundBytes r.heightLo ++ boundBytes r.heightHi

/-- The LOOKUP CLAIM image of claim `c`, from offset 2 of the table of R193 on (R53, R193). -/
def ClaimImage (s : State) (c : ClaimRec) (p : List Byte) : Prop :=
  BytesAt p 2 (flags [decide (c.cls = .forWork), decide (c.kind = .standby), moverIsBond c.mover, c.taken, c.keep, c.waitAllowed,
    c.late, c.deadlineTimer.isPaused]) ∧
  BytesAt p 4 (be16 (bitsNat [c.cueTag.isSome, c.target.isSome, !c.memberTargets.isEmpty, c.requestedSpeed.isSome,
    c.grantedSpeed.isSome, c.reserves.isSome, !c.starts.isEmpty, c.span.isSome, c.waitLimit.isSome, c.deadline.isSome,
    c.group.isSome, c.cause.isSome, c.waitTimer.isSome, c.deadlineTimer.remaining.isSome])) ∧
  BytesAt p 6 [byteOf (moverNumber c.mover), byteOf (s.claims.takeWhile fun d => decide (d.number ≠ c.number)).length] ∧
  BytesAt p 8 (be16 (c.cueTag.getD 0) ++ be16 (c.target.getD 0) ++ be16 (c.requestedSpeed.getD 0) ++ be16 (c.grantedSpeed.getD 0) ++
    be16 ((c.reserves.map Prod.fst).getD 0) ++ be16 ((c.reserves.map Prod.snd).getD 0) ++ be16 (c.waitLimit.getD 0) ++
    be16 (c.deadline.getD 0)) ∧
  BytesAt p 24 [byteOf (c.group.getD 0), byteOf ((c.cause.map FaultCause.code).getD 0),
    byteOf ((c.cause.map FaultCause.classCode).getD 0)] ∧
  BytesAt p 27 (flags [c.reasons.operator, c.reasons.all, c.reasons.estop, c.reasons.segment0 || c.reasons.segment1,
    c.reasons.deskLost, c.reasons.column, c.reasons.group] ++ flags [c.reasons.segment0, c.reasons.segment1]) ∧
  BytesAt p 29 (be16 ((c.waitTimer.map fun e => (100 * c.waitLimit.getD 0 - e + 99) / 100).getD 0) ++
    be16 ((c.deadlineTimer.remaining.map fun r => (r + 99) / 100).getD 0)) ∧
  BytesAt p 33 (shownRegion c.span) ∧ BytesAt p 41 [byteOf (s.members c.mover).length] ∧
  ∀ k, k < 4 → BytesAt p (42 + 5 * k) (match (s.members c.mover)[k]? with
    | some n => [byteOf n] ++ be16i (shownAt c.starts n) ++ be16i (shownAt c.memberTargets n)
    | none => List.replicate 5 0#8)

/-- The LOOKUP GROUP image of group `g` (R93), in the layout of log entry 16. -/
def GroupImage (s : State) (g : Nat) (x : GroupRec) (p : List Byte) : Prop :=
  BytesAt p 0 (flags [x.waitLimit.isSome, x.timer.isSome, decide (x.state = .granted)] ++
    [byteOf g, byteOf x.owner.code, if x.cls = .forShow then 0#8 else 1#8, if x.sync then 1#8 else 0#8] ++ be16 x.expected ++
    [byteOf x.state.code] ++ be16 (x.waitLimit.getD 0) ++
    be16 ((x.timer.map fun e => (100 * x.waitLimit.getD 0 - e + 99) / 100).getD 0) ++ be16 x.members.length) ∧
  ∀ k n, x.members[k]? = some n → BytesAt p (14 + 4 * k)
    ([byteOf n, byteOf (((s.claim? n).map fun c => c.state.code).getD 0)] ++
      be16 (if x.state = .granted then ((s.claim? n).bind ClaimRec.grantedSpeed).getD 0 else 0))

/-- The current region of the mover of set `n` (R24). -/
def regionShown (s : State) (n : Nat) : Option Region :=
  if (s.setRec n).setup = none then none
  else match s.liveClaim (s.moverOf n) with
    | some c => c.span
    | none => if s.untrusted (s.moverOf n) then s.column (s.moverOf n) else s.restingRegion (s.moverOf n)

/-- The LOOKUP SET image of set `n`, from offset 2 of the table of R193 on but for the kind of region (R24, R188, R193). -/
def SetImage (s : State) (n : Nat) (p : List Byte) : Prop :=
  BytesAt p 2 (flags [(s.setRec n).setup.any (fun u => decide (u.rig.segment = .fb1)),
    (s.setRec n).setup.any (fun u => decide (u.rig.stopMode = .fixed)), (s.setRec n).identityVerified, (s.setRec n).locked,
    decide (s.attention.mode = .accumulated)]) ∧
  BytesAt p 3 (flags [(s.setRec n).setup.isSome, (s.setRec n).setup.any (fun u => u.rig.fixedAllowance.isSome),
    (s.setRec n).restPosition.isSome, (s.setRec n).lastReport.isSome, (s.setRec n).bond.isSome, (s.setRec n).claim.isSome,
    (s.setRec n).barredCause.isSome, (s.faultSummary n).rawCode.isSome]) ∧
  BytesAt p 4 (match (s.setRec n).setup with
    | none => List.replicate 30 0#8
    | some u => [byteOf u.rig.address, byteOf u.rig.arrivalTol] ++ be16 u.rig.depth ++ be16 u.rig.lower ++ be16 u.rig.upper ++
      be16 u.rig.rated ++ be16 u.rig.stopConstant ++ be16 (u.rig.fixedAllowance.getD 0) ++ be16 u.rig.stallWindow ++
      be16 u.hang.top ++ be16 u.hang.drop ++ be16 u.hang.fore ++ be16 u.hang.aft ++ be16 u.hang.sway ++ be16 u.hang.loadMin ++
      be16 u.hang.loadMax) ∧
  BytesAt p 34 (be16i ((s.setRec n).restPosition.getD 0)) ∧
  BytesAt p 36 (match (s.setRec n).lastReport with
    | none => List.replicate 7 0#8
    | some r => be16i r.position ++ be16i r.velocity ++ be16 r.load ++ [byteOf r.status.code]) ∧
  BytesAt p 43 [byteOf ((s.setRec n).bond.getD 0), byteOf ((s.setRec n).claim.getD 0),
    byteOf (((s.setRec n).barredCause.map BarredCause.code).getD 0)] ∧
  BytesAt p 47 (shownRegion (regionShown s n)) ∧
  BytesAt p 55 (flags (match s.attention.mode with
    | .latest => [decide ((s.faultSummary n).latest = some .miss), decide ((s.faultSummary n).latest = some .overload),
      decide ((s.faultSummary n).latest = some .slack), decide ((s.faultSummary n).latest = some .overspeed),
      decide ((s.faultSummary n).latest = some .limit), decide ((s.faultSummary n).latest = some .drive)]
    | .accumulated => [(s.faultSummary n).classes.miss, (s.faultSummary n).classes.overload, (s.faultSummary n).classes.slack,
      (s.faultSummary n).classes.overspeed, (s.faultSummary n).classes.limit, (s.faultSummary n).classes.drive])) ∧
  BytesAt p 56 [byteOf (latestCode (s.faultSummary n).latest), (s.faultSummary n).rawCode.getD 0#8]

/-- The set image of the digest for a rig entry and hang in the ranges of R5, as one number (R195). -/
def digestNumber (u : Setup) : Nat :=
  let a := (u.rig.segment.code * 2 + match u.rig.stopMode with | .auto => 0 | .fixed => 1) * 2 ^ 6 + (u.rig.address - 1)
  let b := a * 2 ^ 19 + ((u.rig.stallWindow - 500) * 49 + (u.rig.arrivalTol - 2))
  let c := ((b * 2 ^ 15 + u.rig.depth) * 2 ^ 15 + u.rig.lower) * 2 ^ 15 + u.rig.upper
  let d := ((c * 2 ^ 11 + u.rig.rated) * 2 ^ 11 + u.rig.stopConstant) * 2 ^ 11 + u.rig.fixedAllowance.getD 0
  let e := (d * 2 ^ 27 + (u.hang.top * 10001 + u.hang.drop)) * 2 ^ 27 + (u.hang.fore * 10001 + u.hang.aft)
  ((e * 2 ^ 9 + u.hang.sway) * 2 ^ 12 + u.hang.loadMin) * 2 ^ 12 + u.hang.loadMax

/-- A rig entry and hang in the ranges of R5. -/
def InRanges (u : Setup) : Prop :=
  (1 ≤ u.rig.address ∧ u.rig.address ≤ 64) ∧ u.rig.depth ≤ 24000 ∧ u.rig.lower ≤ 30000 ∧ u.rig.upper ≤ 30000 ∧
    u.rig.rated ≤ 2000 ∧ u.rig.stopConstant ≤ 2000 ∧ u.rig.fixedAllowance.getD 0 ≤ 2000 ∧
    (2 ≤ u.rig.arrivalTol ∧ u.rig.arrivalTol ≤ 50) ∧ (500 ≤ u.rig.stallWindow ∧ u.rig.stallWindow ≤ 10000) ∧
    u.hang.top ≤ 10000 ∧ u.hang.drop ≤ 10000 ∧ u.hang.fore ≤ 10000 ∧ u.hang.aft ≤ 10000 ∧ u.hang.sway ≤ 500 ∧
    u.hang.loadMin ≤ 4000 ∧ u.hang.loadMax ≤ 4000

/-! ## Claim numbers -/

/-- The claim numbers in use are distinct and lie in 1 to 160 (R29). -/
def NumbersDistinct (s : State) : Prop :=
  (s.claims.map ClaimRec.number).Nodup ∧ ∀ c ∈ s.claims, 1 ≤ c.number ∧ c.number ≤ 160

/-! ## Stops, holds and releases -/

/-- Every claim is out of GRANTED and MOVING, and every HELD claim has a reason that `p` finds. -/
def AllStill (p : Reasons → Bool) (t : State) : Prop :=
  ∀ c ∈ t.claims, c.running = false ∧ (c.state = .held → p c.reasons = true)

/-- Claim `c` after a hold reason that `has` finds was added to it in GRANTED, MOVING or HELD (R37): it is HELD with the
reason, and its span and taken flag are kept. -/
def HeldFor (has : Reasons → Bool) (t : State) (c : ClaimRec) : Prop :=
  ∃ d, t.claim? c.number = some d ∧ d.state = .held ∧ has d.reasons = true ∧ d.span = c.span ∧ d.taken = c.taken

/-- A claim waits, or a group is not granted: an entry to STOPPED cancels it (R75, R86). -/
def WaitExists (s : State) : Prop :=
  (∃ c ∈ s.claims, c.state = .waiting) ∨ ∃ g x, s.group? g = some x ∧ x.state ≠ .granted

/-- The entry to STOPPED on every record but that of the stop and the links (R156): no claim waits, every group that is not
granted is free, every claim in GRANTED or MOVING is HELD and every HELD claim carries ESTOP; a claim in another state is as it
was; no set changes but for its claim field; the waits cancelled and the stop are latched. -/
def StopEntered (s t : State) : Prop :=
  t = { s with
    sets := t.sets, bonds := t.bonds, claims := t.claims, groups := t.groups, stop := t.stop, links := t.links
    attention := t.attention } ∧
  (∀ c ∈ t.claims, c.state ≠ .waiting) ∧ AllStill Reasons.estop t ∧
  (NumbersDistinct s → ∀ c ∈ s.claims, c.state ≠ .waiting → ∃ d, t.claim? c.number = some d ∧ if c.holdable then d.state = .held else d = c) ∧
  (∀ g, t.group? g = (s.group? g).filter fun x => decide (x.state = .granted)) ∧
  (∀ n, t.setRec n = { s.setRec n with claim := (t.setRec n).claim }) ∧
  (WaitExists s → t.attention = (s.attention.latchTimes .waitCancelled 1).latchTimes .stop 1) ∧
  (¬ WaitExists s → t.attention = s.attention.latchTimes .stop 1)

/-- A claim other than claim `n` that no re-evaluation of groups touches: it is in no group and carries no GROUP. -/
def Bystander (s : State) (n : Nat) (d : ClaimRec) : Prop :=
  d ∈ s.claims ∧ d.number ≠ n ∧ d.group = none ∧ d.reasons.group = false

/-- A HELD claim that leaves HELD when its reasons become `r` (R38): `r` is empty, it is in no group, and its span meets no
column. -/
def Leaves (s : State) (c : ClaimRec) (r : Reasons) : Prop :=
  c ∈ s.claims ∧ c.state = .held ∧ c.group = none ∧ s.spanMeetsColumn c = false ∧ r = Reasons.empty

/-- Claim `c` has left HELD (R38): into MOVING where it was taken, and into GRANTED otherwise; its span is kept. -/
def HasLeft (t : State) (c : ClaimRec) : Prop :=
  ∃ d, t.claim? c.number = some d ∧ d.state = (if c.taken then .moving else .granted) ∧ d.reasons = Reasons.empty ∧ d.span = c.span

/-! ## The checks of a CLAIM (R46) -/

/-- The member target that a MOVE of `q` gives set `n`: its rest position plus the displacement of the lead (R31). -/
def memberTarget (s : State) (q : ClaimReq) (n : Nat) : Int :=
  s.restOf n + ((q.first : Int) - ((s.members q.mover).head?.map s.restOf).getD 0)

/-- Check `k` of R46 passes for a CLAIM `q` of link `l`. -/
def CheckPasses (s : State) (l : Link) (q : ClaimReq) (k : Nat) : Prop :=
  match k with
  | 1 => match q.mover with
    | .set n => (s.setRec n).setup ≠ none
    | .bond b => s.bond? b ≠ none
  | 2 => match q.mover with
    | .set n => (s.setRec n).bond = none
    | .bond _ => True
  | 3 => ∀ n ∈ s.members q.mover, (s.setRec n).state ≠ .dark ∧ (s.setRec n).state ≠ .barred
  | 4 => ∀ c ∈ s.claims, c.mover ≠ q.mover
  | 5 => ∀ n ∈ s.members q.mover, ∀ u, (s.setRec n).setup = some u → (s.bus u.rig.segment).state ≠ .loop
  | 6 => q.kind = .move → ∀ n ∈ s.members q.mover, ∃ u, (s.setRec n).setup = some u ∧
      (u.rig.lower : Int) ≤ memberTarget s q n ∧ memberTarget s q n ≤ (u.rig.upper : Int)
  | 7 => q.kind = .move → ∀ n ∈ s.members q.mover, ∀ u, (s.setRec n).setup = some u → q.second ≤ u.rig.rated
  | 8 => ∀ g, q.group = some g → ∃ x n u, s.group? g = some x ∧
      (x.state = .forming ∧ x.owner = l ∧ x.cls = q.cls ∧ q.kind = .move ∧ q.waitLimit = none) ∧
      (s.members q.mover).head? = some n ∧ (s.setRec n).setup = some u ∧
      u.rig.arrivalTol < ((q.first : Int) - s.restOf n).natAbs
  | 9 => ∃ n, 1 ≤ n ∧ n ≤ 160 ∧ s.claim? n = none
  | _ => True

/-- Result `r` refuses a CLAIM whose first failing check is check `k` of R46. -/
def RefusesWith (s : State) (l : Link) (q : ClaimReq) (k : Nat) (r : Result) : Prop :=
  match k with
  | 1 => r = (match q.mover with | .set _ => .setVacant | .bond _ => .noSuch)
  | 2 => r = .bonded
  | 3 => ∃ before n after, s.members q.mover = before ++ n :: after ∧
      (∀ m ∈ before, (s.setRec m).state ≠ .dark ∧ (s.setRec m).state ≠ .barred) ∧
      ((s.setRec n).state = .dark ∧ r = .setDark ∨ (s.setRec n).state = .barred ∧ r = .setBarred)
  | 4 => r = .engaged
  | 5 => r = .segmentBusy
  | 6 => r = .trim
  | 7 => r = .speed
  | 8 => ∃ g, q.group = some g ∧ r = (match s.group? g with
      | none => .noSuch
      | some x => if x.state = .forming ∧ x.owner = l ∧ x.cls = q.cls ∧ q.kind = .move ∧ q.waitLimit = none
        then .zeroTravel else .groupMismatch)
  | 9 => r = .tableFull
  | _ => False

/-- The form check of R16, R44, R45, R79, R158 and R178, with the ranges of R5, R15, R30, R55 and R78; the coding of a
parameter's name is log entry 19. -/
def FormLawful : Request → Prop
  | .presence | .stop | .holdAll | .releaseAll | .resume | .warmRestart | .readDigest | .readAttention => True
  | .holdClaim n | .retire n | .releaseClaim n | .lookupClaim n => 1 ≤ n ∧ n ≤ 160
  | .claim q =>
    (match q.mover with | .set n => 1 ≤ n ∧ n ≤ 128 | .bond b => 1 ≤ b ∧ b ≤ 16) ∧
    (∀ x, q.cueTag = some x → 1 ≤ x ∧ x ≤ 65535) ∧ (∀ x, q.waitLimit = some x → 1 ≤ x ∧ x ≤ 600 ∧ q.waitAllowed = true) ∧
    (∀ x, q.group = some x → 1 ≤ x ∧ x ≤ 24) ∧ (∀ x, q.deadline = some x → 1 ≤ x ∧ x ≤ 6000) ∧
    match q.kind with
    | .move => q.first ≤ 30000 ∧ 1 ≤ q.second ∧ q.second ≤ 2000
    | .standby => q.first ≤ 5000 ∧ q.second ≤ 5000 ∧ q.keep = false ∧ q.deadline = none
  | .retarget q => (1 ≤ q.claim ∧ q.claim ≤ 160) ∧ q.target ≤ 30000 ∧ ∀ x, q.speed = some x → 1 ≤ x ∧ x ≤ 2000
  | .addKeepout q =>
    (∀ b ∈ [q.depthLo, q.depthHi, q.heightLo, q.heightHi], -32768 ≤ b ∧ b ≤ 32767) ∧ q.depthLo ≤ q.depthHi ∧
      q.heightLo ≤ q.heightHi ∧ ∀ x, q.tag = some x → 1 ≤ x ∧ x ≤ 65535
  | .retireKeepout n | .lookupKeepout n | .unbind n | .lookupBond n => 1 ≤ n ∧ n ≤ 16
  | .adopt n => n ≤ 2
  | .listClaims q => (1 ≤ q.start ∧ q.start ≤ 160) ∧ ∀ o, q.owner = some o → o ≤ 2
  | .openGroup q => (2 ≤ q.expected ∧ q.expected ≤ 12) ∧ ∀ x, q.waitLimit = some x → 1 ≤ x ∧ x ≤ 600
  | .closeGroup n | .cancelGroup n | .lookupGroup n => 1 ≤ n ∧ n ≤ 24
  | .configureSet q =>
    (1 ≤ q.set ∧ q.set ≤ 128) ∧ (1 ≤ q.address ∧ q.address ≤ 64) ∧ q.depth ≤ 24000 ∧ q.lower < q.upper ∧ q.upper ≤ 30000 ∧
      (1 ≤ q.rated ∧ q.rated ≤ 2000) ∧ (∀ x, q.stopConstant = some x → 100 ≤ x ∧ x ≤ 2000) ∧
      (q.fixedAllowance.isSome = true ↔ q.stopMode = .fixed) ∧ (∀ x, q.fixedAllowance = some x → x ≤ 2000) ∧
      (∀ x, q.arrivalTol = some x → 2 ≤ x ∧ x ≤ 50) ∧ (∀ x, q.stallWindow = some x → 500 ≤ x ∧ x ≤ 10000) ∧
      (q.top ≤ 10000 ∧ q.drop ≤ 10000 ∧ q.fore ≤ 10000 ∧ q.aft ≤ 10000) ∧ (∀ x, q.sway = some x → x ≤ 500) ∧
      q.loadMin ≤ q.loadMax ∧ q.loadMax ≤ 4000
  | .releaseSet n | .reinstate n | .lookupSet n => 1 ≤ n ∧ n ≤ 128
  | .rehang q =>
    (1 ≤ q.set ∧ q.set ≤ 128) ∧ (q.hang.top ≤ 10000 ∧ q.hang.drop ≤ 10000 ∧ q.hang.fore ≤ 10000 ∧ q.hang.aft ≤ 10000) ∧
      q.hang.sway ≤ 500 ∧ q.hang.loadMin ≤ q.hang.loadMax ∧ q.hang.loadMax ≤ 4000
  | .lockHang x | .unlockHang x | .clearFaults x => ∀ n, x = some n → 1 ≤ n ∧ n ≤ 128
  | .bind q =>
    (2 ≤ q.sets.length ∧ q.sets.length ≤ 4) ∧ (∀ n ∈ q.sets, 1 ≤ n ∧ n ≤ 128) ∧ q.sets.Nodup ∧
      ∀ x, q.skew = some x → 5 ≤ x ∧ x ≤ 200
  | .loopTest f | .lookupSegment f => f ≤ 1
  | .lookupStation f a => f ≤ 1 ∧ 1 ≤ a ∧ a ≤ 64
  | .clearAttention q =>
    (∀ ns, q.sel = .named ns → ns ≠ [] ∧ ∀ n ∈ ns, n ≤ 19) ∧ ∀ e, q.expected = some e → e ≤ 65535
  | .setParameter p v => ∃ x, resolveParam p = some x ∧ match x with
    | .clearance => v ≤ 1000
    | .nearFull => 1 ≤ v ∧ v ≤ 160
    | .weight _ => 1 ≤ v ∧ v ≤ 8
    | .pointer | .served => False
    | .drift => 5 ≤ v ∧ v ≤ 100
    | .idleSlice _ => 1 ≤ v ∧ v ≤ 16
    | .window _ => 100 ≤ v ∧ v ≤ 1000
    | .mode | .routing _ | .enable _ => v ≤ 1
  | .readParameter p => resolveParam p ≠ none

/-! ## The clearance (R59) -/

/-- The resting region of mover `m` meets that of another mover whose sets are all RESTING, or a keep-out. -/
def RestingMeets (s : State) (m : Mover) : Prop :=
  ∃ a, s.restingRegion m = some a ∧
    ((∃ k ∈ s.movers, k ≠ m ∧ s.allResting k = true ∧ ∃ b, s.restingRegion k = some b ∧ a.conflicts b = true) ∨
      ∃ n x, 1 ≤ n ∧ n ≤ 16 ∧ Tab.record? s.keepouts n = some x ∧ a.conflicts x.region = true)

/-! ## Wait queues (R63, R64) -/

/-- The entries of one class in the wait queue of desk `l`, in creation order: its WAITING claims of no group, and its READY
groups where the first member stands. -/
def entriesOf (s : State) (l : Link) (k : ClaimClass) : List Entry :=
  s.claims.filterMap fun c =>
    if c.state ≠ .waiting ∨ c.owner ≠ l then none
    else match c.group with
      | none => if c.cls = k then some (.claim c.number) else none
      | some g => (s.group? g).bind fun x =>
        if x.state = .ready ∧ x.members.head? = some c.number ∧ x.cls = k then some (.group g) else none

/-- Some desk that is not LOST has an entry that an examination would grant (R71). -/
def SomeGrantable (s : State) : Prop :=
  ∃ l e, (s.link l).presence ≠ .lost ∧ e ∈ s.queueOf l ∧ s.examine e ≠ none

/-! ## Group grants (R87, R88) -/

/-- The lead's travel of claim `c`: its target less its rest position, without sign (R87). -/
def leadGap (s : State) (c : ClaimRec) : Nat :=
  ((c.target.getD 0 : Int) - (((s.members c.mover).head?.map s.restOf).getD 0)).natAbs

/-- The lead's travel of claim `c` exceeds the lead's arrival tolerance (step 2 of R87). -/
def Travels (s : State) (c : ClaimRec) : Prop :=
  ∃ n u, (s.members c.mover).head? = some n ∧ (s.setRec n).setup = some u ∧ u.rig.arrivalTol < leadGap s c

/-- Member `k` takes longer over its travel than member `c`, or as long with a lower claim number (R88). -/
def TakesLonger (s : State) (k c : ClaimRec) : Prop :=
  leadGap s c * k.requestedSpeed.getD 0 < leadGap s k * c.requestedSpeed.getD 0 ∨
    leadGap s c * k.requestedSpeed.getD 0 = leadGap s k * c.requestedSpeed.getD 0 ∧ k.number < c.number

/-- In `t` claim `c` of `s` is granted with plan `p` at speed `v` (R35, R121): it has the plan's span, start positions and member
targets, it is not taken and has no wait timer, and its supervision record opens with nothing counted or marked. -/
def GrantedAs (s t : State) (c : ClaimRec) (v : Nat) (p : Plan) : Prop :=
  t.claim? c.number = some { c with
    state := match c.kind with | .move => .granted | .standby => .standing
    starts := p.starts, memberTargets := p.targets
    grantedSpeed := match c.kind with | .move => some v | .standby => none
    span := some p.span, taken := false, waitTimer := none
    sup := some {
      members := (s.members c.mover).filterMap fun n => (s.setRec n).setup.map fun u =>
        { set := n, segment := u.rig.segment, address := u.rig.address, takeCount := 0, takenMark := false, fresh := none
          lastPosition := positionIn p.starts n, stallRef := none }
      take := match c.kind with | .move => .running | .standby => .stopped
      stall := none, stopWindow := .stopped
      deadline := match c.kind, c.deadline with | .move, some d => .running (100 * d) | _, _ => .absent } }

/-! ## Laws -/

/-- A claim is in HELD exactly when its set of hold reasons is not empty (R37). -/
def HeldExactly (s : State) : Prop := ∀ c ∈ s.claims, (c.state = .held ↔ c.reasons ≠ Reasons.empty)

/-- While the stop state is not RUN, or hold-all is on, no claim is in GRANTED or MOVING (R153); and every HELD claim then
carries the reason that keeps it so. -/
def StoppedStill (s : State) : Prop :=
  ∀ c ∈ s.claims,
    (s.stop.state ≠ .run → c.running = false ∧ (c.state = .held → c.reasons.estop = true)) ∧
    (s.stop.holdAll = true → c.running = false ∧ (c.state = .held → c.reasons.all = true))

/-- Outside STOPPED both channels are INACTIVE (R154), and the discrepancy timer runs only while they disagree (R155). -/
def StopPair (s : State) : Prop :=
  (s.stop.state ≠ .stopped → s.stop.channelA = false ∧ s.stop.channelB = false) ∧
    (s.stop.discrepancy.isSome = true → s.stop.channelA ≠ s.stop.channelB)

/-- Every member of a FORMING or READY group is a WAITING claim of that group (R78), and a WAITING claim of a group has no
wait-limit timer of its own (R46, R85). -/
def GroupsWait (s : State) : Prop :=
  (∀ g x, s.group? g = some x → x.state ≠ .granted →
    ∀ n ∈ x.members, ∃ c, s.claim? n = some c ∧ c.state = .waiting ∧ c.group = some g) ∧
  ∀ c ∈ s.claims, c.state = .waiting → c.group.isSome = true → c.waitTimer = none

/-- The laws of the Claim Table and the Stop Controller. -/
def ClaimLaws (s : State) : Prop := NumbersDistinct s ∧ HeldExactly s ∧ StoppedStill s ∧ StopPair s ∧ GroupsWait s

/-- A member is stopping while it is FAULTED, or HELD with a reason other than GROUP (R90). -/
def Stopping (c : ClaimRec) : Prop :=
  c.state = .faulted ∨ c.state = .held ∧ { c.reasons with group := false } ≠ Reasons.empty

/-- While a member of a group is stopping, no other member of it is in GRANTED or MOVING (R90). -/
def GroupsStill (s : State) : Prop :=
  ∀ c ∈ s.claims, ∀ d ∈ s.claims, ∀ g, c.group = some g → d.group = some g → c.number ≠ d.number → Stopping d →
    c.running = false

/-- A claim with a group stands in that group's member list, WAITING exactly while the group is not granted (R78); an ARRIVED
claim has no group (R89). -/
def GroupsListed (s : State) : Prop :=
  ∀ c ∈ s.claims, ∀ g, c.group = some g →
    c.state ≠ .arrived ∧ ∃ x, s.group? g = some x ∧ c.number ∈ x.members ∧ (c.state = .waiting ↔ x.state ≠ .granted)

/-- The laws of the Group Table. -/
def GroupLaws (s : State) : Prop := GroupsStill s ∧ GroupsListed s

/-- Every bond has 2 to 4 members, ascending and configured, and a set carries its number exactly while it is one of them
(R15). -/
def BondsLawful (s : State) : Prop :=
  (∀ b x, s.bond? b = some x → 2 ≤ x.members.length ∧ x.members.length ≤ 4 ∧ x.members.Pairwise (· < ·) ∧
    ∀ n ∈ x.members, (s.setRec n).setup ≠ none ∧ (s.setRec n).bond = some b) ∧
  ∀ n b, (s.setRec n).bond = some b → ∃ x, s.bond? b = some x ∧ n ∈ x.members

/-- A set is VACANT exactly while it has no rig entry, and then it has no bond and no claim (R5). RESTING and ENGAGED sets hold a
rest position and a last report. A configured set is ENGAGED exactly while its mover has a live claim, and carries the number
of its mover's claim (R7). -/
def SetsLawful (s : State) : Prop :=
  ∀ n, ((s.setRec n).setup = none ↔ (s.setRec n).state = .vacant) ∧
    ((s.setRec n).setup = none → (s.setRec n).bond = none ∧ (s.setRec n).claim = none) ∧
    ((s.setRec n).state = .resting ∨ (s.setRec n).state = .engaged →
      (s.setRec n).restPosition ≠ none ∧ (s.setRec n).lastReport ≠ none) ∧
    ((s.setRec n).setup ≠ none → ((s.setRec n).state = .engaged ↔ s.liveClaim (s.moverOf n) ≠ none) ∧
      (s.setRec n).claim = (s.claimOf (s.moverOf n)).map ClaimRec.number)

/-- A mover has at most one claim (R29) and exists while it has one; a bond carries its number (R7); a live claim has a span and
a supervision record of its mover's sets (R32, R121). -/
def ClaimsPlaced (s : State) : Prop :=
  (s.claims.map ClaimRec.mover).Nodup ∧
    (∀ b x, s.bond? b = some x → x.claim = (s.claimOf (.bond b)).map ClaimRec.number) ∧
    ∀ c ∈ s.claims,
      (match c.mover with
        | .set n => (s.setRec n).setup ≠ none ∧ (s.setRec n).bond = none
        | .bond b => s.bond? b ≠ none) ∧
      (c.live = true → c.span ≠ none ∧ ∃ x, c.sup = some x ∧ x.members.map SupMember.set = s.members c.mover)

/-- The laws of sets, bonds and claims together. -/
def AirLaws (s : State) : Prop := BondsLawful s ∧ SetsLawful s ∧ ClaimsPlaced s

/-- A station is configured for a set exactly while that set's rig entry names it (R98); so no two configured sets name one
station (R5). -/
def StationsKnown (s : State) : Prop :=
  (∀ n u, (s.setRec n).setup = some u →
    1 ≤ u.rig.address ∧ u.rig.address ≤ 64 ∧ ((s.bus u.rig.segment).station u.rig.address).set = some n) ∧
  ∀ f a n, ((s.bus f).station a).set = some n →
    ∃ u, (s.setRec n).setup = some u ∧ u.rig.segment = f ∧ u.rig.address = a

/-- An IDLE segment has no configured station, a POLLING one or one in LOOP has at least one (R99), and a loop test is in
progress only in LOOP (R113). -/
def SegmentsLawful (s : State) : Prop :=
  ∀ f, ((s.bus f).state = .idle → (s.bus f).configured = []) ∧
    ((s.bus f).state = .polling ∨ (s.bus f).state = .loop → (s.bus f).configured ≠ []) ∧
    ((s.bus f).loop.isSome = true → (s.bus f).state = .loop)

/-- The digest is that of the set and bond tables as they stand (R26). -/
def DigestCurrent (s : State) : Prop := s.digest = s.hangDigest

/-- The laws of the Set Registry and the fly bus controllers. -/
def TowerLaws (s : State) : Prop := StationsKnown s ∧ SegmentsLawful s ∧ DigestCurrent s

/-- No two committed regions belonging to different movers or keep-outs conflict (R33). -/
def Separated (s : State) : Prop :=
  (∀ m ∈ s.movers, ∀ k ∈ s.movers, m ≠ k → ∀ a b, s.committed m = some a → s.committed k = some b → a.conflicts b = false) ∧
  (∀ m ∈ s.movers, ∀ n x a, Tab.record? s.keepouts n = some x → s.committed m = some a → a.conflicts x.region = false) ∧
  ∀ n k x y, n ≠ k → Tab.record? s.keepouts n = some x → Tab.record? s.keepouts k = some y →
    x.region.conflicts y.region = false

/-- What R33 takes for granted of the regions it commits without a check. The resting region that follows a claim's removal lies
within its span: that of every member of an ARRIVED or STANDING claim at its last reported position, and that of every member
of a MOVING or RETIRING claim at its fresh report. The own regions of RESTING members after the UNBIND of an untrusted bond
meet no other mover's committed region and no keep-out. The rules do not keep this: a set may stand up to the drift tolerance
away from its rest position, and REHANG checks no region of a member of an untrusted bond. -/
def RestsInside (s : State) : Prop :=
  (∀ c ∈ s.claims, ∀ g, c.span = some g → ∀ n ∈ s.members c.mover, ∀ u, (s.setRec n).setup = some u →
    (c.state = .arrived ∨ c.state = .standing →
      ∀ r, (s.setRec n).lastReport = some r → (u.restingRegion s.clearance r.position).within g = true) ∧
    (c.state = .moving ∨ c.state = .retiring → ∀ m ∈ c.supMembers, m.set = n → ∀ r, m.fresh = some r →
      (u.restingRegion s.clearance r.position).within g = true)) ∧
  ∀ b x, s.bond? b = some x → s.untrusted (.bond b) = true → s.liveClaim (.bond b) = none →
    ∀ n ∈ x.members, (s.setRec n).state = .resting → ∀ u, (s.setRec n).setup = some u →
      (∀ m ∈ s.movers, m ≠ .bond b → ∀ a, s.committed m = some a →
        (u.restingRegion s.clearance (s.restOf n)).conflicts a = false) ∧
      ∀ k x, Tab.record? s.keepouts k = some x → (u.restingRegion s.clearance (s.restOf n)).conflicts x.region = false

/-- The parameters lie in the ranges of R178, the served count in that of R66, the latch counts in that of R181. -/
def InRange (s : State) : Prop :=
  s.clearance ≤ 1000 ∧ (1 ≤ s.nearFull ∧ s.nearFull ≤ 160) ∧ (∀ l, 1 ≤ s.weights.get l ∧ s.weights.get l ≤ 8) ∧
    s.served ≤ 8 ∧ (5 ≤ s.driftTolerance ∧ s.driftTolerance ≤ 100) ∧
    (∀ f, 1 ≤ (s.bus f).idleSlice ∧ (s.bus f).idleSlice ≤ 16) ∧
    (∀ l, 100 ≤ (s.link l).window ∧ (s.link l).window ≤ 1000) ∧ ∀ n, s.attention.count n ≤ 255

/-- The miss count of every station is 0 to 3 (R98, R108). -/
def MissesBounded (s : State) : Prop := ∀ f a, ((s.bus f).station a).missCount ≤ 3

/-- A link's response queue holds up to 4 responses (R170), and a link of role OFF has no layer, slot or queue activity and
stays ABSENT (R166). -/
def LinkOk (x : LinkRec) : Prop :=
  x.queue.length ≤ 4 ∧
    (x.role = .off →
      x.layer0 = .free ∧ x.layer1 = .free ∧ x.posted = [] ∧ x.receiving = none ∧ x.slot = none ∧ x.priorityResponse = none ∧
        x.queue = [] ∧ x.sending = none ∧ x.presence = .absent ∧ x.presenceTimer = none)

/-- Every link is so. -/
def LinksOk (s : State) : Prop := ∀ l, LinkOk (s.link l)

/-- The bounds of counts, parameters and queues. -/
def Bounds (s : State) : Prop := InRange s ∧ MissesBounded s ∧ LinksOk s

end Sys2Proof.Machine
end

