-- ==== Sys2Proof/WellFormed.lean ====
section
/-! DEFINITION. Well-formed commands: their operands can be spelled in the fields the manual gives them (R191 to R194), and a number names a record the table has. -/

namespace Sys2Proof

/-- A number of one byte. -/
def byteNum (n : Nat) : Bool := decide (n < 256)

/-- A number of two bytes. -/
def wordNum (n : Nat) : Bool := decide (n < 65536)

/-- An optional number passes a check where it is present. -/
def optNum (p : Nat → Bool) (x : Option Nat) : Bool := x.all p

/-- A hang fits its two-byte fields. -/
def hangFits (h : Hang) : Bool :=
  wordNum h.top && wordNum h.drop && wordNum h.fore && wordNum h.aft && wordNum h.sway && wordNum h.loadMin && wordNum h.loadMax

/-- The mover's number fits one byte. -/
def moverFits : Mover → Bool
  | .set n => byteNum n
  | .bond n => byteNum n

/-- A CLAIM fits the payload of R193. -/
def claimFits (q : ClaimReq) : Bool :=
  moverFits q.mover && optNum wordNum q.cueTag && wordNum q.first && wordNum q.second && optNum wordNum q.waitLimit &&
    optNum byteNum q.group && optNum wordNum q.deadline

/-- A CONFIGURE SET fits its payload. -/
def configureFits (q : ConfigureReq) : Bool :=
  byteNum q.set && wordNum q.address && wordNum q.depth && wordNum q.lower && wordNum q.upper && wordNum q.rated &&
    optNum wordNum q.stopConstant && optNum wordNum q.fixedAllowance && optNum wordNum q.arrivalTol &&
    optNum wordNum q.stallWindow && wordNum q.top && wordNum q.drop && wordNum q.fore && wordNum q.aft && optNum wordNum q.sway &&
    wordNum q.loadMin && wordNum q.loadMax

/-- A signed bound fits two bytes. -/
def boundFits (i : Int) : Bool := decide (-32768 ≤ i) && decide (i < 32768)

/-- The sources of a CLEAR ATTENTION are among the twenty. -/
def selFits : ClearSel → Bool
  | .all => true
  | .named codes => codes.all fun n => decide (n < 20)

/-- The fields of a request fit its payload. -/
def requestFits : Request → Bool
  | .presence => true
  | .stop => true
  | .holdAll => true
  | .holdClaim n => byteNum n
  | .releaseAll => true
  | .resume => true
  | .claim q => claimFits q
  | .retarget q => byteNum q.claim && wordNum q.target && optNum wordNum q.speed
  | .retire n => byteNum n
  | .releaseClaim n => byteNum n
  | .addKeepout q =>
    boundFits q.depthLo && boundFits q.depthHi && boundFits q.heightLo && boundFits q.heightHi && optNum wordNum q.tag
  | .retireKeepout n => byteNum n
  | .warmRestart => true
  | .adopt n => byteNum n
  | .lookupClaim n => byteNum n
  | .listClaims q => byteNum q.start && optNum byteNum q.owner
  | .lookupKeepout n => byteNum n
  | .openGroup q => wordNum q.expected && optNum wordNum q.waitLimit
  | .closeGroup n => byteNum n
  | .cancelGroup n => byteNum n
  | .lookupGroup n => byteNum n
  | .configureSet q => configureFits q
  | .releaseSet n => byteNum n
  | .rehang q => byteNum q.set && hangFits q.hang
  | .lockHang n => optNum byteNum n
  | .unlockHang n => optNum byteNum n
  | .reinstate n => byteNum n
  | .bind q => decide (q.sets.length ≤ 85) && q.sets.all byteNum && optNum wordNum q.skew
  | .unbind n => byteNum n
  | .lookupSet n => byteNum n
  | .lookupBond n => byteNum n
  | .readDigest => true
  | .loopTest f => byteNum f
  | .lookupSegment f => byteNum f
  | .lookupStation f a => byteNum f && wordNum a
  | .clearAttention q => selFits q.sel && optNum wordNum q.expected
  | .clearFaults n => optNum byteNum n
  | .readAttention => true
  | .setParameter p v => byteNum p.name && optNum byteNum p.which && wordNum v
  | .readParameter p => byteNum p.name && optNum byteNum p.which

/-- The link, tag and request of a request row; none for the rows that are events, and for UNKNOWN_REQUEST. -/
def requestOf : Instr → Option (Link × Word16 × Request)
  | .presence l t => some (l, t, .presence)
  | .stop l t => some (l, t, .stop)
  | .holdAll l t => some (l, t, .holdAll)
  | .holdClaim l t n => some (l, t, .holdClaim n)
  | .releaseAll l t => some (l, t, .releaseAll)
  | .resume l t => some (l, t, .resume)
  | .claim l t q => some (l, t, .claim q)
  | .retarget l t q => some (l, t, .retarget q)
  | .retire l t n => some (l, t, .retire n)
  | .releaseClaim l t n => some (l, t, .releaseClaim n)
  | .addKeepout l t q => some (l, t, .addKeepout q)
  | .retireKeepout l t n => some (l, t, .retireKeepout n)
  | .warmRestart l t => some (l, t, .warmRestart)
  | .adopt l t n => some (l, t, .adopt n)
  | .lookupClaim l t n => some (l, t, .lookupClaim n)
  | .listClaims l t q => some (l, t, .listClaims q)
  | .lookupKeepout l t n => some (l, t, .lookupKeepout n)
  | .openGroup l t q => some (l, t, .openGroup q)
  | .closeGroup l t n => some (l, t, .closeGroup n)
  | .cancelGroup l t n => some (l, t, .cancelGroup n)
  | .lookupGroup l t n => some (l, t, .lookupGroup n)
  | .configureSet l t q => some (l, t, .configureSet q)
  | .releaseSet l t n => some (l, t, .releaseSet n)
  | .rehang l t q => some (l, t, .rehang q)
  | .lockHang l t n => some (l, t, .lockHang n)
  | .unlockHang l t n => some (l, t, .unlockHang n)
  | .reinstate l t n => some (l, t, .reinstate n)
  | .bind l t q => some (l, t, .bind q)
  | .unbind l t n => some (l, t, .unbind n)
  | .lookupSet l t n => some (l, t, .lookupSet n)
  | .lookupBond l t n => some (l, t, .lookupBond n)
  | .readDigest l t => some (l, t, .readDigest)
  | .loopTest l t f => some (l, t, .loopTest f)
  | .lookupSegment l t f => some (l, t, .lookupSegment f)
  | .lookupStation l t f a => some (l, t, .lookupStation f a)
  | .clearAttention l t q => some (l, t, .clearAttention q)
  | .clearFaults l t n => some (l, t, .clearFaults n)
  | .readAttention l t => some (l, t, .readAttention)
  | .setParameter l t p v => some (l, t, .setParameter p v)
  | .readParameter l t p => some (l, t, .readParameter p)
  | _ => none

/-- A number lies in its table. -/
def inTable (k n : Nat) : Bool := decide (1 ≤ n) && decide (n ≤ k)

/-- A well-formed command. A desk may send a number no table has (it is answered MALFORMED), so a request need only fit its
payload; a timer that expires belongs to a record that exists; the kind of an unknown request names no request; a TEST
frame returns at most seven characters. -/
def wellFormed (i : Instr) : Bool :=
  match requestOf i with
  | some (_, _, r) => requestFits r
  | none =>
    match i with
    | .unknownRequest _ _ k => !Machine.namesRequest k
    | .stallTimerExpiry n => inTable 160 n
    | .stopWindowRunOut n => inTable 160 n
    | .deadlineExpiry n => inTable 160 n
    | .waitLimitExpiry n => inTable 160 n
    | .groupWaitLimitExpiry n => inTable 24 n
    | .testFrameCompared _ cs => decide (cs.length ≤ 7)
    | _ => true

end Sys2Proof
end

