-- ==== Sys2Proof/Certificates/Slice0/Obligations.lean ====
section
/-! DEFINITION. The statements for the provers, chapter by chapter. A statement that a command completes gives its next state: the records it changes, and, by an equation of the form t = (s with the fields named), that no other record differs. -/

open Sys2Proof Sys2Proof.Machine

/-! ## Steps -/

/-- A step takes the command at the front of the queue and runs it on the state with the rest of the queue. -/
def Obligations.StepTakesFrontCommand : Prop :=
  ∀ (c : Instr) (rest : List Instr) (s : State), s.pending = c :: rest → step s = exec c (s.withPending rest)

/-- On an empty queue one millisecond passes: every running timer advances by one, and nothing else changes. The wait-limit,
stall, stop-window, group, presence and discrepancy timers count up, a running deadline counts down; a paused deadline and a
window that is not running stay. That a step on an empty queue is a millisecond, and that no tick forces an expiry, are the
model's choices (log entries 2 and 3). -/
def Obligations.EmptyQueuePassesOneMillisecond : Prop :=
  ∀ s : State, s.pending = [] →
    ∃ t, step s = .next t ∧ t = { s with claims := t.claims, groups := t.groups, stop := t.stop, links := t.links } ∧
      t.stop = { s.stop with discrepancy := s.stop.discrepancy.map (· + 1) } ∧
      (∀ l, t.link l =
        { s.link l with presenceTimer := (s.link l).presenceTimer.map fun x => { x with elapsed := x.elapsed + 1 } }) ∧
      (∀ g, t.group? g = (s.group? g).map fun x => { x with timer := x.timer.map (· + 1) }) ∧
      t.claims = s.claims.map fun c => { c with
        waitTimer := c.waitTimer.map (· + 1)
        sup := c.sup.map fun x => { x with
          stall := x.stall.map (· + 1)
          stopWindow := match x.stopWindow with
            | .running e => .running (e + 1)
            | .stopped => .stopped
            | .runOut => .runOut
          deadline := match x.deadline with
            | .running r => .running (r - 1)
            | .paused r => .paused r
            | .absent => .absent } }

/-- Every command of the table answers a next state in every state, and leaves the commands waiting behind it as they are. That a row
whose occasion does not hold completes without a change is the model's choice (log entry 1), and so is that COLD_RESET keeps the
queue (log entry 27). -/
def Obligations.EveryCommandCompletes : Prop :=
  ∀ (c : Instr) (s : State), ∃ t, exec c s = .next t ∧ t.pending = s.pending

/-! ## Roles and forms -/

/-- A request that the role table of R167 does not permit is refused with NOT_PERMITTED and changes no record; the numbers are the
kinds of R192 with a yes in the column of the role. A FULL desk's request whose fields fail the form check is refused with
MALFORMED and changes no record. -/
def Obligations.RefusedUnread : Prop :=
  ∀ (i : Instr) (l : Link) (tag : Word16) (r : Request) (s : State), requestOf i = some (l, tag, r) →
    (s.link l).queue.length < 4 → (s.link l).priorityResponse = none →
    ((s.link l).role = .lookup ∧ kindOf r ∉ [1, 26, 27, 28, 32, 41, 42, 43, 45, 46, 49, 51] ∨
      (s.link l).role = .hold ∧ kindOf r ∉ [1, 2, 3, 4, 26, 27, 28, 32, 41, 42, 43, 45, 46, 49, 51] →
      ∃ t, exec i s = .next t ∧
        if kindOf r ≤ 4 then AnswerOnlyNow s t l (kindOf r) tag (Reply.of .notPermitted)
        else AnswerOnly s t l (kindOf r) tag (Reply.of .notPermitted)) ∧
    ((s.link l).role = .full → formOk r = false →
      ∃ t, exec i s = .next t ∧
        if kindOf r ≤ 4 then AnswerOnlyNow s t l (kindOf r) tag (Reply.of .malformed)
        else AnswerOnly s t l (kindOf r) tag (Reply.of .malformed))

/-- From a link of role OFF no request is taken and no frame received: nothing changes. A kind that names no request (none
of 1 to 4 and 16 to 51) is answered MALFORMED by a link that answers frames. -/
def Obligations.LinkAnswersItself : Prop :=
  (∀ (i : Instr) (l : Link) (tag : Word16) (r : Request) (s : State), requestOf i = some (l, tag, r) →
    (s.link l).role = .off → exec i s = .next s) ∧
  (∀ (l : Link) (b : Byte) (s : State), (s.link l).role = .off → exec (.deskFrameBegin l b) s = .next s) ∧
  ∀ (l : Link) (tag : Word16) (k : Byte) (s : State), OpenDesk s l →
    (k.toNat = 0 ∨ 4 < k.toNat ∧ k.toNat < 16 ∨ 51 < k.toNat) →
    ∃ t, exec (.unknownRequest l tag k) s = .next t ∧ AnswerOnly s t l k.toNat tag (Reply.of .malformed)

/-! ## Lookups -/

/-- READ DIGEST (R27): the payload of R195, the digest in four bytes, most significant first, then the number of configured sets
and the number of bonds in use, one byte each. -/
def Obligations.ReadDigestAnswers : Prop :=
  ∀ (l : Link) (tag : Word16) (s : State), OpenDesk s l →
    ∃ t, exec (.readDigest l tag) s = .next t ∧
      AnswerOnly s t l 43 tag (Reply.done (bytes32 s.digest ++
        [byteOf ((List.range' 1 128).countP fun n => (s.setRec n).setup.isSome),
         byteOf ((List.range' 1 16).countP fun b => (s.bond? b).isSome)]))

/-- LOOKUP KEEPOUT (R58): the presence byte, the four bounds, the tag. -/
def Obligations.LookupKeepoutAnswers : Prop :=
  ∀ (l : Link) (tag : Word16) (n : Nat) (s : State), OpenDesk s l → 1 ≤ n → n ≤ 16 →
    ∃ t, exec (.lookupKeepout l tag n) s = .next t ∧
      match Tab.record? s.keepouts n with
      | none => AnswerOnly s t l 28 tag (Reply.of .noSuch)
      | some k => AnswerOnly s t l 28 tag (Reply.done (
          [if k.tag.isSome then 1#8 else 0#8] ++ boundBytes k.region.depthLo ++ boundBytes k.region.depthHi ++
            boundBytes k.region.heightLo ++ boundBytes k.region.heightHi ++ be16 (k.tag.getD 0)))

/-- LOOKUP CLAIM, LIST CLAIMS and LOOKUP GROUP answer from the tables as they stand and change nothing: the claim image is the 62
bytes of R193 with every field of R53; the list holds the numbers in use that match, ascending, 32 at most, with the next where
there are more; the group image holds every field of R93. The layouts of the list and of the group image are log entry 16, the
coding of choices and of SYNC log entry 19. -/
def Obligations.ClaimLookupsAnswer : Prop :=
  (∀ (l : Link) (tag : Word16) (n : Nat) (s : State), OpenDesk s l → 1 ≤ n → n ≤ 160 →
    ∃ t, exec (.lookupClaim l tag n) s = .next t ∧
      match s.claim? n with
      | none => AnswerOnly s t l 26 tag (Reply.of .noSuch)
      | some c => ∃ p, AnswerOnly s t l 26 tag (Reply.done p) ∧ p.length = 62 ∧ p[0]? = some (byteOf n) ∧
          p[1]? = some (byteOf c.owner.code) ∧ p[3]? = some (byteOf c.state.code) ∧ ClaimImage s c p) ∧
  (∀ (l : Link) (tag : Word16) (q : ListReq) (s : State), OpenDesk s l → 1 ≤ q.start → q.start ≤ 160 →
    (∀ o, q.owner = some o → o ≤ 2) →
    ∃ t ns, exec (.listClaims l tag q) s = .next t ∧
      ns = (List.range' 1 160).filter (fun n => decide (q.start ≤ n) && (s.claim? n).any fun c =>
        match q.owner with | none => true | some o => decide (c.owner.code = o)) ∧
      AnswerOnly s t l 27 tag (Reply.done ([if 32 < ns.length then 1#8 else 0#8] ++ be16 (min 32 ns.length) ++
        (ns.take 32).map byteOf ++ [byteOf (ns[32]?.getD 0)]))) ∧
  ∀ (l : Link) (tag : Word16) (g : Nat) (s : State), OpenDesk s l → 1 ≤ g → g ≤ 24 →
    ∃ t, exec (.lookupGroup l tag g) s = .next t ∧
      match s.group? g with
      | none => AnswerOnly s t l 32 tag (Reply.of .noSuch)
      | some x => ∃ p, AnswerOnly s t l 32 tag (Reply.done p) ∧ p.length = 14 + 4 * x.members.length ∧
          p[1]? = some (byteOf g) ∧ p[7]? = some (byteOf x.state.code) ∧ GroupImage s g x p

/-- LOOKUP SET, LOOKUP BOND, LOOKUP SEGMENT and LOOKUP STATION answer from the records as they stand and change nothing: the
set image is the 58 bytes of R193 with every field of R24; a free bond is NO_SUCH; the segment payload shows state, configured
stations and idle pointer; the station payload ends with the content that would be built now. The hang digest is the CRC-32 over
the set images and bond images of R195. The layouts but that of the set image are log entry 16, the coding of choices log entry 19,
the code of a command among them, and the zeros for a station that is not configured log entry 20. -/
def Obligations.TowerLookupsAnswer : Prop :=
  (∀ (l : Link) (tag : Word16) (n : Nat) (s : State), OpenDesk s l → 1 ≤ n → n ≤ 128 →
    ∃ t p, exec (.lookupSet l tag n) s = .next t ∧ AnswerOnly s t l 41 tag (Reply.done p) ∧ p.length = 58 ∧
      p[0]? = some (byteOf n) ∧ p[1]? = some (byteOf (s.setRec n).state.code) ∧
      p[46]? = some (if (s.setRec n).setup = none then 0#8
        else if (s.liveClaim (s.moverOf n)).isSome then 2#8 else if s.untrusted (s.moverOf n) then 3#8 else 1#8) ∧
      SetImage s n p) ∧
  (∀ (l : Link) (tag : Word16) (b : Nat) (s : State), OpenDesk s l → 1 ≤ b → b ≤ 16 →
    ∃ t, exec (.lookupBond l tag b) s = .next t ∧
      match s.bond? b with
      | none => AnswerOnly s t l 42 tag (Reply.of .noSuch)
      | some x => ∃ p, AnswerOnly s t l 42 tag (Reply.done p) ∧ p.length = 18 ∧ p[1]? = some (byteOf (x.members.getD 0 0)) ∧
          p[17]? = some (if s.untrusted (.bond b) then 1#8 else 0#8) ∧
          BytesAt p 5 (be16 x.skew ++ [byteOf (x.claim.getD 0)] ++ shownRegion (match s.liveClaim (.bond b) with
            | some c => c.span
            | none => if s.untrusted (.bond b) then s.column (.bond b) else s.restingRegion (.bond b)) ++
            [if (s.liveClaim (.bond b)).isSome then 2#8 else if s.untrusted (.bond b) then 3#8 else 1#8])) ∧
  (∀ (l : Link) (tag : Word16) (f : Segment) (s : State), OpenDesk s l →
    ∃ t p, exec (.lookupSegment l tag f.code) s = .next t ∧ AnswerOnly s t l 45 tag (Reply.done p) ∧ p.length = 16 ∧
      p[1]? = some (byteOf (s.bus f).state.code) ∧ p[3]? = some (byteOf (s.bus f).configured.length) ∧
      p[7]? = some (byteOf (s.bus f).idlePointer)) ∧
  (∀ (l : Link) (tag : Word16) (f : Segment) (a : Nat) (s : State), OpenDesk s l → 1 ≤ a → a ≤ 64 →
    ∃ t p, exec (.lookupStation l tag f.code a) s = .next t ∧ AnswerOnly s t l 46 tag (Reply.done p) ∧ p.length = 22 ∧
      p[1]? = some (byteOf (((s.bus f).station a).set.getD 0)) ∧
      p.drop 17 = match ((s.bus f).station a).set with
        | none => List.replicate 5 0#8
        | some n => (s.contentFor n).bytes) ∧
  (digestSetImage none = List.replicate 24 0#8 ∧ ∀ u, InRanges u →
    digestSetImage (some u) = (List.range 24).map fun i => byteOf (digestNumber u / 256 ^ (23 - i))) ∧
  (digestBondImage none = List.replicate 6 0#8 ∧ ∀ x : BondRec, x.members.length ≤ 4 → digestBondImage (some x) =
    x.members.map byteOf ++ List.replicate (4 - x.members.length) 0#8 ++ be16 x.skew) ∧
  ∀ s : State, s.hangDigest = crc32 ((List.range' 1 128).flatMap (fun n => digestSetImage (s.setRec n).setup) ++
    (List.range' 1 16).flatMap fun b => digestBondImage (s.bond? b))

/-- PRESENCE answers the STATUS payload of R173; READ ATTENTION the payload of R186, count, routing and enable of each source, the
outputs, the sequence number and the summary mode; READ PARAMETER the value of a parameter. None changes a record. SET
PARAMETER of a parameter without condition, with a value in its range, replaces the one field that holds it (R178); for the
clearance, the obstacle that refuses it is the mover with the lowest set number whose new region meets another committed region
(R59). The one-byte counts are log entry 18; the coding of channels, states, routing, enable, outputs, modes and parameter
names is log entry 19, the other sizes log entry 16. -/
def Obligations.StatusAndParameters : Prop :=
  (∀ (l : Link) (tag : Word16) (s : State), (s.link l).role ≠ .off → (s.link l).priorityResponse = none →
    ∃ t, exec (.presence l tag) s = .next t ∧
      AnswerOnlyNow s t l 1 tag (Reply.done
        [byteOf s.stop.state.code, if s.stop.holdAll then 1#8 else 0#8, if s.stop.channelA then 0#8 else 1#8,
         if s.stop.channelB then 0#8 else 1#8, if s.stop.mark then 1#8 else 0#8, byteOf (s.link .dl0).presence.code,
         byteOf (s.link .dl1).presence.code, byteOf (s.link .dl2).presence.code, byteOf (s.link l).role.code])) ∧
  (∀ (l : Link) (tag : Word16) (s : State), OpenDesk s l →
    ∃ t p, exec (.readAttention l tag) s = .next t ∧ AnswerOnly s t l 49 tag (Reply.done p) ∧ p.length = 65 ∧
      (∀ n, n < 20 → BytesAt p (3 * n) [byteOf (s.attention.count n),
        if s.attention.routing[n]? = some .urgent then 0#8 else 1#8,
        if s.attention.enabled[n]? = some true then 0#8 else 1#8]) ∧
      BytesAt p 60 ([if s.attention.output .urgent then 1#8 else 0#8, if s.attention.output .routine then 1#8 else 0#8] ++
        bytes16 s.attention.sequence ++ [if s.attention.mode = .latest then 0#8 else 1#8])) ∧
  (∀ (l : Link) (tag : Word16) (p : ParamName) (x : Param) (v : Nat) (s : State), FullDesk s l → resolveParam p = some x →
    x ≠ .clearance → valueOk x v = true →
    ∃ t u, exec (.setParameter l tag p v) s = .next t ∧ AnswerOnly u t l 50 tag (Reply.of .done) ∧ u = match x with
      | .clearance => s
      | .nearFull => { s with nearFull := v }
      | .weight k => { s with weights := s.weights.put k v }
      | .pointer => s
      | .served => s
      | .drift => { s with driftTolerance := v }
      | .idleSlice f => { s with buses := s.buses.put f { s.bus f with idleSlice := v } }
      | .window k => { s with links := s.links.put k { s.link k with window := v } }
      | .mode => { s with attention := { s.attention with mode := if v = 0 then .latest else .accumulated } }
      | .routing n => { s with attention := { s.attention with
          routing := s.attention.routing.setIfInBounds n (if v = 0 then .urgent else .routine) } }
      | .enable n => { s with attention := { s.attention with
          enabled := s.attention.enabled.setIfInBounds n (decide (v = 0)) } }) ∧
  (∀ (l : Link) (tag : Word16) (p : ParamName) (x : Param) (s : State), OpenDesk s l → resolveParam p = some x →
    ∃ t, exec (.readParameter l tag p) s = .next t ∧ AnswerOnly s t l 51 tag (Reply.done (match x with
      | .clearance => be16 s.clearance
      | .nearFull => be16 s.nearFull
      | .weight k => be16 (s.weights.get k)
      | .pointer => [byteOf s.pointer.code]
      | .served => be16 s.served
      | .drift => be16 s.driftTolerance
      | .idleSlice f => be16 (s.bus f).idleSlice
      | .window k => be16 (s.link k).window
      | .mode => [if s.attention.mode = .latest then 0#8 else 1#8]
      | .routing n => [if s.attention.routing[n]? = some .urgent then 0#8 else 1#8]
      | .enable n => [if s.attention.enabled[n]? = some true then 0#8 else 1#8]))) ∧
  (∀ (p : ParamName) (x : Param), resolveParam p = some x ↔ match x with
    | .clearance => p = { name := 0, which := none }
    | .nearFull => p = { name := 1, which := none }
    | .weight l => p = { name := 2, which := some l.code }
    | .pointer => p = { name := 3, which := none }
    | .served => p = { name := 4, which := none }
    | .drift => p = { name := 5, which := none }
    | .idleSlice f => p = { name := 6, which := some f.code }
    | .window l => p = { name := 7, which := some l.code }
    | .mode => p = { name := 8, which := none }
    | .routing n => n < 20 ∧ p = { name := 9, which := some n }
    | .enable n => n < 20 ∧ p = { name := 10, which := some n }) ∧
  ∀ (v : Nat) (s w : State), w = { s with clearance := v } →
    (s.clearanceObstacle v = none ↔ ∀ m ∈ w.movers, w.allResting m = true → ¬ RestingMeets w m) ∧
    ∀ o, s.clearanceObstacle v = some o → ∃ m ∈ w.movers, w.allResting m = true ∧ RestingMeets w m ∧
      (∀ k ∈ w.movers, w.allResting k = true → RestingMeets w k → (w.lead m).getD 0 ≤ (w.lead k).getD 0) ∧
      o = match m with
        | .set n => { kind := .set, number := n, basis := .region }
        | .bond b => { kind := .bond, number := b, basis := .region }

/-! ## Desk links -/

/-- A frame begins on a link that is not OFF and is receiving none (R168, R169, R171): a first byte 1 to 4 goes to the
priority slot and fills no layer; any other fills layer 0 where it is FREE, else layer 1 where that is FREE, which becomes
FILLING; where neither is FREE no layer changes. -/
def Obligations.FrameBegins : Prop :=
  ∀ (l : Link) (b : Byte) (s : State), (s.link l).role ≠ .off → (s.link l).receiving = none →
    ∃ t, exec (.deskFrameBegin l b) s = .next t ∧ t = { s with links := t.links } ∧ ∃ x, t.links = s.links.put l x ∧
      x = (if 1 ≤ b.toNat ∧ b.toNat ≤ 4 then { s.link l with receiving := some { first := b, dest := .slot } }
        else if (s.link l).layer0 = .free then
          { s.link l with layer0 := .filling, receiving := some { first := b, dest := .layer .l0 } }
        else if (s.link l).layer1 = .free then
          { s.link l with layer1 := .filling, receiving := some { first := b, dest := .layer .l1 } }
        else { s.link l with receiving := some { first := b, dest := .overrun } })

/-- A good regular frame ends on a link that is not LOST (R165, R168, R174): its layer becomes POSTED with it, it takes the
last place of the posting order, and it is a presence event. One that found no layer FREE is discarded and latches the
overrun source of its link (R169). -/
def Obligations.GoodRegularFrameEnds : Prop :=
  (∀ (l : Link) (b : Byte) (rest : List Byte) (n : LayerName) (s : State),
    (s.link l).receiving = some { first := b, dest := .layer n } → goodFrame (b :: rest) false = true →
    (s.link l).presence ≠ .lost →
    ∃ t, exec (.deskFrameEnd l rest false) s = .next t ∧ t = { s with links := t.links } ∧
      t.links = s.links.put l { (s.link l).putLayer n (.posted (frameOf (b :: rest))) with
        posted := (s.link l).posted ++ [n], receiving := none, presence := .present
        presenceTimer := some { elapsed := 0, window := (s.link l).window } }) ∧
  ∀ (l : Link) (b : Byte) (rest : List Byte) (s : State),
    (s.link l).receiving = some { first := b, dest := .overrun } → goodFrame (b :: rest) false = true →
    (s.link l).presence ≠ .lost →
    ∃ t, exec (.deskFrameEnd l rest false) s = .next t ∧ t = { s with links := t.links, attention := t.attention } ∧
      t.links = s.links.put l { s.link l with
        receiving := none, presence := .present, presenceTimer := some { elapsed := 0, window := (s.link l).window } } ∧
      t.attention = s.attention.latchTimes (Source.ofOverrun l) 1

/-- A bad frame ends (R165): the layer it was filling becomes FREE, and nothing else changes: no presence event, no latch.
A frame with a framing error, of fewer than 4 bytes or of more than 94 is bad. -/
def Obligations.BadFrameEnds : Prop :=
  (∀ (bytes : List Byte) (e : Bool), e = true ∨ bytes.length < 4 ∨ 94 < bytes.length → goodFrame bytes e = false) ∧
  ∀ (l : Link) (b : Byte) (d : Destination) (rest : List Byte) (e : Bool) (s : State),
    (s.link l).receiving = some { first := b, dest := d } → goodFrame (b :: rest) e = false →
    ∃ t, exec (.deskFrameEnd l rest e) s = .next t ∧ t = { s with links := t.links } ∧
      t.links = s.links.put l (match d with
        | .layer .l0 => { s.link l with receiving := none, layer0 := .free }
        | .layer .l1 => { s.link l with receiving := none, layer1 := .free }
        | .overrun => { s.link l with receiving := none }
        | .slot => { s.link l with receiving := none })

/-- A good regular frame brings a LOST link back (R176): it becomes PRESENT with its timer from 0, its frame is POSTED, and
every HELD claim of the link that carried DESK_LOST is HELD with OPERATOR in its place. The pass that follows
may grant waiting claims. -/
def Obligations.LostDeskReturns : Prop :=
  ∀ (l : Link) (b : Byte) (rest : List Byte) (n : LayerName) (s : State),
    (s.link l).receiving = some { first := b, dest := .layer n } → goodFrame (b :: rest) false = true →
    (s.link l).presence = .lost → ClaimLaws s →
    ∃ t, exec (.deskFrameEnd l rest false) s = .next t ∧
      t = { s with claims := t.claims, sets := t.sets, groups := t.groups, pointer := t.pointer, served := t.served
                   links := t.links } ∧
      t.links = s.links.put l { (s.link l).putLayer n (.posted (frameOf (b :: rest))) with
        posted := (s.link l).posted ++ [n], receiving := none, presence := .present
        presenceTimer := some { elapsed := 0, window := (s.link l).window } } ∧
      t.claims.map ClaimRec.number = s.claims.map ClaimRec.number ∧
      ∀ c ∈ s.claims, c.owner = l → c.state = .held → c.reasons.deskLost = true →
        ∃ d, t.claim? c.number = some d ∧ d.state = .held ∧ d.reasons.deskLost = false ∧ d.reasons.operator = true

/-- A good priority frame ends on a link that is not LOST while its priority response slot is still occupied (R171): the
request waits in the priority slot, in place of any request held there, and is marked superseded where it replaced one. -/
def Obligations.PriorityFrameWaits : Prop :=
  ∀ (l : Link) (b : Byte) (rest : List Byte) (s : State),
    (s.link l).receiving = some { first := b, dest := .slot } → goodFrame (b :: rest) false = true →
    (s.link l).presence ≠ .lost → (s.link l).priorityResponse ≠ none →
    ∃ t, exec (.deskFrameEnd l rest false) s = .next t ∧ t = { s with links := t.links } ∧
      t.links = s.links.put l { s.link l with
        receiving := none, presence := .present, presenceTimer := some { elapsed := 0, window := (s.link l).window }
        slot := some { frame := frameOf (b :: rest), superseded := (s.link l).slot.isSome } }

/-- A frame is good exactly when it spells kind, length, payload and CRC-16, without framing error (R165, R192). The oldest POSTED
request, while the response queue has a free entry: its layer is FREE, it leaves the posting order, and the step is that of the
row of the request its payload spells, with its tag (R170); a kind that names no request, or a payload too short for a tag
or of another layout, is answered MALFORMED, or NOT_PERMITTED first where the role does not permit the kind. With a full queue
nothing happens. The request of the priority slot is taken likewise once the priority response slot is empty, its response
marked superseded where it replaced another; a good priority frame that ends while that slot is empty is taken in the same
step (R171). The CLAIM payload is that of R193, and a response frame has the header and CRC-16 of R192. That the tag of a short
payload comes before the role check is log entry 25, that a waiting priority request is taken by a row of its own log entry 15,
that a row without its occasion changes nothing log entry 1, that a payload with trailing bytes is of another layout log entry 16. -/
def Obligations.RequestsTakenFromLink : Prop :=
  (∀ (k : Byte) (rest : List Byte), goodFrame (k :: rest) false = true ↔ ∃ (p : List Byte) (hi lo : Byte), p.length ≤ 90 ∧
    rest = byteOf p.length :: (p ++ [hi, lo]) ∧ word16 hi lo = crc16 (k :: byteOf p.length :: p) ∧
    frameOf (k :: rest) = { kind := k, payload := p }) ∧
  (∀ (l : Link) (n : LayerName) (ns : List LayerName) (x : Frame) (s w : State), (s.link l).posted = n :: ns →
    (s.link l).layer n = .posted x → OpenDesk s l → 4 < x.kind.toNat ∨ x.kind.toNat = 0 →
    w = { s with links := s.links.put l { (s.link l).putLayer n .free with posted := ns } } →
    (x.payload.length < 2 ∨ x.kind.toNat < 16 ∨ 51 < x.kind.toNat →
      ∃ t, exec (.postedRequestTaken l) s = .next t ∧ AnswerOnly w t l x.kind.toNat (tagOf x.payload) (Reply.of .malformed)) ∧
    (∀ a b p, x.payload = a :: b :: p → 16 ≤ x.kind.toNat → x.kind.toNat ≤ 51 → readRequest x.kind.toNat p = none →
      ∃ t, exec (.postedRequestTaken l) s = .next t ∧ AnswerOnly w t l x.kind.toNat (word16 a b)
        (Reply.of (if (s.link l).role = .full ∨ x.kind.toNat ∈ lookupKinds then .malformed else .notPermitted))) ∧
    (∀ a b p r i, x.payload = a :: b :: p → 16 ≤ x.kind.toNat → x.kind.toNat ≤ 51 → readRequest x.kind.toNat p = some r →
      requestOf i = some (l, word16 a b, r) → exec (.postedRequestTaken l) s = exec i w) ∧
    tagOf x.payload = match x.payload with | a :: b :: _ => word16 a b | _ => 0) ∧
  (∀ (l : Link) (s : State), 4 ≤ (s.link l).queue.length → exec (.postedRequestTaken l) s = .next s) ∧
  (∀ (l : Link) (x : SlotRequest) (s w : State), (s.link l).slot = some x → (s.link l).role ≠ .off →
    (s.link l).priorityResponse = none → 1 ≤ x.frame.kind.toNat → x.frame.kind.toNat ≤ 4 →
    w = { s with links := s.links.put l { s.link l with slot := none } } →
    (∀ a b p r i, x.frame.payload = a :: b :: p → readRequest x.frame.kind.toNat p = some r →
      requestOf i = some (l, word16 a b, r) →
      ∃ t u, exec (.priorityRequestTaken l) s = .next t ∧ exec i w = .next u ∧
        t = { u with links := u.links.put l { u.link l with
          priorityResponse := (u.link l).priorityResponse.map fun y => { y with superseded := x.superseded } } }) ∧
    ∀ y, (x.frame.payload.length < 2 ∧ y = .malformed ∨
        (∃ a b p, x.frame.payload = a :: b :: p ∧ readRequest x.frame.kind.toNat p = none ∧
          y = if (s.link l).role = .lookup ∧ x.frame.kind.toNat ≠ 1 then .notPermitted else .malformed)) →
      ∃ t, exec (.priorityRequestTaken l) s = .next t ∧ t = { w with links := w.links.put l { w.link l with
        priorityResponse := some (w.response x.frame.kind (tagOf x.frame.payload) x.superseded (Reply.of y)) } }) ∧
  (∀ (l : Link) (b : Byte) (rest : List Byte) (s : State), (s.link l).role ≠ .off →
    (s.link l).receiving = some { first := b, dest := .slot } → goodFrame (b :: rest) false = true →
    (s.link l).presence ≠ .lost → (s.link l).priorityResponse = none →
    exec (.deskFrameEnd l rest false) s = exec (.priorityRequestTaken l) { s with links := s.links.put l { s.link l with
      receiving := none, presence := .present, presenceTimer := some { elapsed := 0, window := (s.link l).window }
      slot := some { frame := frameOf (b :: rest), superseded := (s.link l).slot.isSome } } }) ∧
  (∀ (f g m c1 c0 a1 a0 b1 b0 w1 w0 n d1 d0 : Byte),
    readRequest 18 [f, g, m, c1, c0, a1, a0, b1, b0, w1, w0, n, d1, d0] =
      if f.toNat < 32 ∧ g.toNat < 16 then some (.claim
        { kind := if f.getLsbD 0 then .standby else .move, cls := if f.getLsbD 1 then .forWork else .forShow
          mover := if f.getLsbD 2 then .bond m.toNat else .set m.toNat, waitAllowed := f.getLsbD 3, keep := f.getLsbD 4
          cueTag := if g.getLsbD 0 then some (word16 c1 c0).toNat else none
          first := (word16 a1 a0).toNat, second := (word16 b1 b0).toNat
          waitLimit := if g.getLsbD 1 then some (word16 w1 w0).toNat else none
          group := if g.getLsbD 2 then some n.toNat else none
          deadline := if g.getLsbD 3 then some (word16 d1 d0).toNat else none })
      else none) ∧
  (∀ body : List Byte, body.length ≠ 14 → readRequest 18 body = none) ∧
  ∀ (s : State) (kind : Byte) (tag : Word16) (sup : Bool) (y : Reply), ∃ head b2 b1 b0,
    head = [kind ||| 0x80#8, byteOf (9 + y.payload.length)] ++ bytes16 tag ++ [byteOf y.result.code] ++
      flags [sup, s.attention.output .urgent, s.attention.output .routine] ++ [b2, b1, b0] ++ bytes16 s.attention.sequence ++
      y.payload ∧
    (s.response kind tag sup y).frame = head ++ bytes16 (crc16 head) ∧
    ∀ n, n < 24 → (b2 ++ b1 ++ b0).getLsbD n = decide (1 ≤ s.attention.count n)

/-- Transmission (R170, R172): a free transmitter begins the priority response where there is one, and the head of the
response queue otherwise; at its end that response leaves its slot or the queue. No other record differs: a request held in the
priority slot stays there, since its taking is the row PRIORITY_REQUEST_TAKEN (log entry 15), and a start while a frame is being
sent changes nothing (log entry 1). -/
def Obligations.Transmission : Prop :=
  (∀ (l : Link) (s : State), (s.link l).sending = none →
    ∃ t, exec (.responseTransmitStart l) s = .next t ∧ t = { s with links := t.links } ∧
      t.links = s.links.put l { s.link l with
        sending := match (s.link l).priorityResponse, (s.link l).queue with
          | some r, _ => some { priority := true, bytes := r.frame }
          | none, r :: _ => some { priority := false, bytes := r.frame }
          | none, [] => none }) ∧
  (∀ (l : Link) (y : Sending) (s : State), (s.link l).sending = some y →
    exec (.responseTransmitStart l) s = .next s) ∧
  ∀ (l : Link) (y : Sending) (s : State), (s.link l).sending = some y →
    ∃ t, exec (.responseTransmitEnd l) s = .next t ∧ t = { s with links := t.links } ∧
      t.links = s.links.put l
        (if y.priority then { s.link l with sending := none, priorityResponse := none }
         else { s.link l with sending := none, queue := (s.link l).queue.tail })

/-- A PRESENT link whose presence timer reaches its window is LOST (R175, R150): its POSTED layers are FREE, a FILLING one is
left, its priority slot is empty, its responses stay; every claim it owns in GRANTED, MOVING or HELD is HELD with DESK_LOST;
the loss is latched. Its waiting claims and groups stay, as do the claims of other desks outside groups. HOLD ALL (R160) sets
the flag; every claim in GRANTED, MOVING or HELD is HELD with ALL, every other claim stays; HOLD_ALL is latched where the flag
was off. That time first passes for every record until the window is reached, as on the ticks, is log entry 3. -/
def Obligations.LossAndHoldAll : Prop :=
  (∀ (l : Link) (x : PresenceTimer) (s w : State), (s.link l).presence = .present → (s.link l).presenceTimer = some x →
    w = s.elapse (x.window - x.elapsed) →
    ∃ t, exec (.presenceWindowExpiry l) s = .next t ∧
      t = { w with
        claims := t.claims
        links := w.links.put l { w.link l with
          presence := .lost, presenceTimer := none, posted := [], slot := none
          layer0 := match (s.link l).layer0 with | .posted _ => .free | .filling => .filling | .free => .free
          layer1 := match (s.link l).layer1 with | .posted _ => .free | .filling => .filling | .free => .free }
        attention := s.attention.latchTimes (Source.ofLoss l) 1 } ∧
      t.claims.map ClaimRec.number = s.claims.map ClaimRec.number ∧
      (∀ c ∈ t.claims, c.owner = l → c.running = false ∧ (c.state = .held → c.reasons.deskLost = true)) ∧
      (NumbersDistinct s → ∀ c ∈ s.claims, c.owner = l → c.holdable = true → HeldFor Reasons.deskLost t c) ∧
      (∀ c ∈ w.claims, c.holdable = false → c ∈ t.claims) ∧
      (HeldExactly s → ∀ c ∈ w.claims, c.owner ≠ l → c.group = none → c.reasons.group = false → c ∈ t.claims)) ∧
  ∀ (l : Link) (tag : Word16) (s : State), HoldDesk s l →
    ∃ t, exec (.holdAll l tag) s = .next t ∧
      t = { s with claims := t.claims, stop := t.stop, links := t.links, attention := t.attention } ∧
      t.stop = { s.stop with holdAll := true } ∧ AllStill Reasons.all t ∧
      t.claims.map ClaimRec.number = s.claims.map ClaimRec.number ∧
      (NumbersDistinct s → ∀ c ∈ s.claims, c.holdable = true → HeldFor Reasons.all t c) ∧
      (∀ c ∈ s.claims, c.holdable = false → c ∈ t.claims) ∧
      t.attention = (if s.stop.holdAll then s.attention else s.attention.latchTimes .holdAll 1) ∧
      AnsweredNow s t l 3 tag (Reply.of .done)

/-! ## The Attention Unit and the parameters -/

/-- A latching event (R181): the count of its source rises by one, up to 255, every other count stays, and the sequence
number rises by one, wrapping. An output is asserted exactly while a source of its routing is latched and enabled (R183). -/
def Obligations.LatchesAndOutputs : Prop :=
  (∀ (a : AttentionRec) (src : Source), (a.latchTimes src 1).count src.code = min 255 (a.count src.code + 1) ∧
    (∀ n, n ≠ src.code → (a.latchTimes src 1).count n = a.count n) ∧ (a.latchTimes src 1).sequence = a.sequence + 1) ∧
  ∀ (a : AttentionRec) (r : Routing),
    a.output r = true ↔ ∃ n, n < 20 ∧ 1 ≤ a.count n ∧ a.enabled[n]? = some true ∧ a.routing[n]? = some r

/-- CLEAR ATTENTION (R185): with no expected sequence number, or the one that holds, the count of every named source becomes
0, every other count and the sequence number stay, and the answer is DONE; with another it is refused with WRONG_STATE.
CLEAR FAULTS (R189): the accumulated classes and the raw code of every set named are gone, its latest outcome kept. -/
def Obligations.AttentionClears : Prop :=
  (∀ (l : Link) (tag : Word16) (q : ClearReq) (s : State), FullDesk s l → formOk (.clearAttention q) = true →
    (∀ e, q.expected = some e → e = s.attention.sequence.toNat) →
    ∃ t, exec (.clearAttention l tag q) s = .next t ∧ t = { s with attention := t.attention, links := t.links } ∧
      t.attention = { s.attention with counts := t.attention.counts } ∧
      (∀ n, n < 20 → q.sel = .all → t.attention.count n = 0) ∧
      (∀ n ns, n < 20 → q.sel = .named ns → t.attention.count n = if n ∈ ns then 0 else s.attention.count n) ∧
      Answered s t l 47 tag (Reply.of .done)) ∧
  (∀ (l : Link) (tag : Word16) (q : ClearReq) (e : Nat) (s : State), FullDesk s l → formOk (.clearAttention q) = true →
    q.expected = some e → e ≠ s.attention.sequence.toNat →
    ∃ t, exec (.clearAttention l tag q) s = .next t ∧ AnswerOnly s t l 47 tag (Reply.of .wrongState)) ∧
  ∀ (l : Link) (tag : Word16) (n : Option Nat) (s : State), FullDesk s l → (∀ k, n = some k → 1 ≤ k ∧ k ≤ 128) →
    ∃ t, exec (.clearFaults l tag n) s = .next t ∧ t = { s with attention := t.attention, links := t.links } ∧
      t.attention = { s.attention with faults := t.attention.faults } ∧
      (∀ k, 1 ≤ k → k ≤ 128 → t.faultSummary k = if n = none ∨ n = some k
        then { latest := (s.faultSummary k).latest, classes := FaultClasses.empty, rawCode := none } else s.faultSummary k) ∧
      Answered s t l 48 tag (Reply.of .done)

/-- SET PARAMETER of the vertical clearance (R59): BUSY while any claim exists; with none, and where no two regions would
conflict, the new value holds; where one would, the refusal is CONFLICT naming the obstacle. That parameter name 0 is the vertical
clearance is log entry 19. -/
def Obligations.ClearanceSet : Prop :=
  ∀ (l : Link) (tag : Word16) (v : Nat) (s : State), FullDesk s l → v ≤ 1000 →
    ∃ t, exec (.setParameter l tag { name := 0, which := none } v) s = .next t ∧
      if s.claims ≠ [] then AnswerOnly s t l 50 tag (Reply.of .busy)
      else match s.clearanceObstacle v with
        | some o => AnswerOnly s t l 50 tag { result := .conflict, payload := o.bytes }
        | none => t = { s with clearance := v, links := t.links } ∧ Answered s t l 50 tag (Reply.of .done)

/-! ## Regions and the region checker -/

/-- The column of a configured set (R3): the depth range of its resting region, and from the lower trim less drop less clearance
to the upper trim plus top plus clearance. It covers the resting region at every position within the trims. -/
def Obligations.ColumnOfASet : Prop :=
  ∀ (u : Setup) (clr : Nat) (p : Int),
    (u.column clr).depthLo = (u.restingRegion clr p).depthLo ∧ (u.column clr).depthHi = (u.restingRegion clr p).depthHi ∧
      (u.column clr).heightLo = (u.rig.lower : Int) - u.hang.drop - clr ∧
      (u.column clr).heightHi = (u.rig.upper : Int) + u.hang.top + clr ∧
      ((u.rig.lower : Int) ≤ p → p ≤ (u.rig.upper : Int) → (u.restingRegion clr p).within (u.column clr) = true)

/-- The resting region at a position (R1), the stop allowance in AUTO mode, which is the ceiling of speed by stop constant over
2000, and in FIXED mode (R2), and the height a member sweeps between two positions (R31). -/
def Obligations.RegionsOfASet : Prop :=
  (∀ (u : Setup) (clr : Nat) (p : Int), u.restingRegion clr p =
    { depthLo := (u.rig.depth : Int) - u.hang.fore - u.hang.sway, depthHi := (u.rig.depth : Int) + u.hang.aft + u.hang.sway
      heightLo := p - u.hang.drop - clr, heightHi := p + u.hang.top + clr }) ∧
  (∀ (u : Setup) (v : Nat), u.rig.stopMode = .auto → v * u.rig.stopConstant ≤ 2000 * u.allowance v ∧
    ∀ k, v * u.rig.stopConstant ≤ 2000 * k → u.allowance v ≤ k) ∧
  (∀ (u : Setup) (v a : Nat), u.rig.stopMode = .fixed → u.rig.fixedAllowance = some a → u.allowance v = a) ∧
  ∀ (u : Setup) (clr v : Nat) (a b : Int),
    (u.sweptRegion clr v a b).heightLo = min a b - u.hang.drop - clr - u.allowance v ∧
      (u.sweptRegion clr v a b).heightHi = max a b + u.hang.top + clr + u.allowance v

/-- The region checker (R33, R34): a candidate fits exactly when it conflicts with no keep-out in use, with no committed region
of a mover outside its own, and with no column of an untrusted mover outside its own; a keep-out it conflicts with is named
before any mover, the lowest first. Two regions conflict when both ranges overlap, touching bounds included. -/
def Obligations.RegionChecker : Prop :=
  (∀ a b : Region, a.conflicts b = true ↔
    a.depthLo ≤ b.depthHi ∧ b.depthLo ≤ a.depthHi ∧ a.heightLo ≤ b.heightHi ∧ b.heightLo ≤ a.heightHi) ∧
  (∀ (s : State) (own : List Mover) (r : Region), s.fits own r = true ↔
    (∀ n k, 1 ≤ n → n ≤ 16 → Tab.record? s.keepouts n = some k → r.conflicts k.region = false) ∧
      ∀ m ∈ s.movers, m ∉ own → (∀ g, s.committed m = some g → r.conflicts g = false) ∧
        (s.untrusted m = true → ∀ g, s.column m = some g → r.conflicts g = false)) ∧
  ∀ (s : State) (own : List Mover) (r : Region) (n : Nat) (k : Keepout), 1 ≤ n → n ≤ 16 →
    Tab.record? s.keepouts n = some k → r.conflicts k.region = true →
    (∀ j y, 1 ≤ j → j < n → Tab.record? s.keepouts j = some y → r.conflicts y.region = false) →
    s.obstacle own r = some { kind := .keepout, number := n, basis := .region }

/-- The conditions of a grant (R35): a claim gets a plan at a speed exactly when the stop state is RUN, hold-all is off, every
member's segment is POLLING, its mover is trusted, every member target lies within its trims, and its span fits. -/
def Obligations.GrantConditions : Prop :=
  ∀ (s : State) (c : ClaimRec) (v : Nat) (p : Plan), s.grantPlan c v = some p ↔
    s.stop.state = .run ∧ s.stop.holdAll = false ∧
      (∀ n ∈ s.members c.mover, ∃ u, (s.setRec n).setup = some u ∧ (s.bus u.rig.segment).state = .polling) ∧
      s.untrusted c.mover = false ∧
      (∀ q ∈ s.targetsOf c, ∃ u, (s.setRec q.1).setup = some u ∧ (u.rig.lower : Int) ≤ q.2 ∧ q.2 ≤ (u.rig.upper : Int)) ∧
      s.planOf c v = some p ∧ s.fits [c.mover] p.span = true

/-- A pass of the Grant Arbiter (R63, R64, R70 to R72). The wait queue of a desk is its SHOW entries, then its WORK entries, each in
creation order. A pass changes nothing while grants are not allowed or every queue is empty; a turn that is spent passes to the
next desk first. A turn of a LOST desk grants nothing; any other examines the queue of its desk in order, and ends at the desk's
weight. After a turn with a grant the pass ends where every queue is empty; otherwise the next desk's turn follows, with count 0;
where no desk has an entry that can be granted, the pass ends with the pointer as it was, three desks on, and count 0. A claim
examined is granted exactly when it gets a plan (R35), and a READY group (R87) exactly when every member's lead travels, every
member gets a plan at its speed, and the spans do not meet one another; a grant changes the claims granted and their sets alone.
Speeds are the requested ones, or with SYNC those of R88. That a turn examines the queue as it stands when the turn begins is
log entry 38. -/
def Obligations.ArbiterAndGroupGrants : Prop :=
  (∀ (s : State) (l : Link), s.queueOf l = entriesOf s l .forShow ++ entriesOf s l .forWork) ∧
  (∀ s : State, s.stop.state ≠ .run ∨ s.stop.holdAll = true ∨ (∀ l, s.queueOf l = []) → s.pass = s) ∧
  (∀ s : State, s.stop.state = .run → s.stop.holdAll = false → (∃ l, s.queueOf l ≠ []) → (∀ l, 1 ≤ s.weights.get l) →
    (s.weights.get s.pointer ≤ s.served → s.pass = ({ s with pointer := s.pointer.next, served := 0 } : State).pass) ∧
    (s.served < s.weights.get s.pointer →
      (∀ t, NumbersDistinct s → s.turn = (t, true) → s.pass =
        if t.queueOf .dl0 = [] ∧ t.queueOf .dl1 = [] ∧ t.queueOf .dl2 = [] then t
        else ({ t with pointer := s.pointer.next, served := 0 } : State).pass) ∧
      (s.turn.2 = false → SomeGrantable s →
        s.pass = ({ s with pointer := s.pointer.next, served := 0 } : State).pass) ∧
      (¬ SomeGrantable s → s.pass = { s with served := 0 }))) ∧
  (∀ s : State, s.turn = if (s.link s.pointer).presence = .lost then (s, false)
    else examineAll (s.weights.get s.pointer) (s.queueOf s.pointer) s false) ∧
  (∀ (w : Nat) (e : Entry) (es : List Entry) (g : Bool) (s : State), examineAll w [] s g = (s, g) ∧
    (s.examine e = none → examineAll w (e :: es) s g = examineAll w es s g) ∧
    ∀ t, s.examine e = some t → s.served < w → examineAll w (e :: es) s g =
      if s.served + 1 = w then ({ t with served := w }, true)
      else examineAll w es { t with served := s.served + 1 } true) ∧
  (∀ (s t : State) (n : Nat), s.examine (.claim n) = some t ↔ ∃ c p, s.claim? n = some c ∧
    s.grantPlan c (c.requestedSpeed.getD 0) = some p ∧ t = s.grant c (c.requestedSpeed.getD 0) p) ∧
  (∀ (s t : State) (c : ClaimRec) (v : Nat) (p : Plan), s.claim? c.number = some c → t = s.grant c v p →
    t = { s with claims := t.claims, sets := t.sets } ∧ t.claims.map ClaimRec.number = s.claims.map ClaimRec.number ∧
      (∀ d ∈ s.claims, d.number ≠ c.number → d ∈ t.claims) ∧ GrantedAs s t c v p ∧
      ∀ k, t.setRec k = if k ∈ s.members c.mover ∧ 1 ≤ k ∧ k ≤ 128 then { s.setRec k with state := .engaged } else s.setRec k) ∧
  (∀ (s : State) (g : Nat) (x : GroupRec) (cs : List ClaimRec), s.group? g = some x → cs = x.members.filterMap s.claim? →
    (s.examine (.group g) ≠ none ↔ (∀ c ∈ cs, Travels s c) ∧ ∃ ps : List Plan,
      ps.length = cs.length ∧ ps.Pairwise (fun a b => b.span.conflicts a.span = false) ∧
      ∀ (i : Nat) (c : ClaimRec) (p : Plan), cs[i]? = some c → ps[i]? = some p → s.grantPlan c (s.groupSpeed x.sync cs c) = some p) ∧
    ∀ t, s.examine (.group g) = some t →
      t = { s with claims := t.claims, sets := t.sets, groups := t.groups } ∧
        (∀ k, t.group? k = if k = g then some { x with state := .granted, timer := none } else s.group? k) ∧
        t.claims.map ClaimRec.number = s.claims.map ClaimRec.number ∧
        (∀ d ∈ s.claims, d.number ∉ x.members → d ∈ t.claims) ∧
        (∀ c ∈ cs, ∃ p, s.grantPlan c (s.groupSpeed x.sync cs c) = some p ∧ GrantedAs s t c (s.groupSpeed x.sync cs c) p) ∧
        ∀ k, t.setRec k = if (∃ c ∈ cs, k ∈ s.members c.mover) ∧ 1 ≤ k ∧ k ≤ 128
          then { s.setRec k with state := .engaged } else s.setRec k) ∧
  (∀ (s : State) (cs : List ClaimRec) (c : ClaimRec), s.groupSpeed false cs c = c.requestedSpeed.getD 0) ∧
  ∀ (s : State) (cs : List ClaimRec), cs ≠ [] → (cs.map ClaimRec.number).Nodup → (∀ c ∈ cs, Travels s c) →
    (∀ c ∈ cs, 1 ≤ c.requestedSpeed.getD 0) →
    ∃ k ∈ cs, (∀ c ∈ cs, c.number ≠ k.number → TakesLonger s k c) ∧ ∀ c ∈ cs, ∃ q,
      s.groupSpeed true cs c = min (c.requestedSpeed.getD 0) q ∧
        k.requestedSpeed.getD 0 * leadGap s c ≤ leadGap s k * q ∧
        ∀ j, k.requestedSpeed.getD 0 * leadGap s c ≤ leadGap s k * j → q ≤ j

/-! ## The Stop Controller -/

/-- STOP (R159): outside STOPPED it enters STOPPED and, both channels being INACTIVE there, LATCHED in the same step; in STOPPED it
changes nothing. Both are answered DONE. -/
def Obligations.StopTaken : Prop :=
  (∀ (l : Link) (tag : Word16) (s : State), HoldDesk s l → s.stop.state ≠ .stopped → s.stop.channelA = false →
    s.stop.channelB = false →
    ∃ t, exec (.stop l tag) s = .next t ∧ StopEntered s t ∧ t.stop = { s.stop with state := .latched } ∧
      AnsweredNow s t l 2 tag (Reply.of .done)) ∧
  ∀ (l : Link) (tag : Word16) (s : State), HoldDesk s l → s.stop.state = .stopped →
    ∃ t, exec (.stop l tag) s = .next t ∧ AnswerOnlyNow s t l 2 tag (Reply.of .done)

/-- The emergency-stop pair (R154, R155). A channel that becomes ACTIVE outside STOPPED enters STOPPED; in STOPPED it is only
recorded. A channel that becomes INACTIVE in STOPPED leaves it, for LATCHED, exactly when the other is INACTIVE too. The
discrepancy timer starts from 0 where the channels then disagree and is discarded where they agree. That a level which is the one
held changes nothing is log entry 32. -/
def Obligations.ChannelEvents : Prop :=
  (∀ (c : Channel) (low : Bool) (s : State), s.stop.channel c = low → exec (.estopChannelEvent c low) s = .next s) ∧
  (∀ (low : Bool) (s : State), s.stop.channelA ≠ low → s.stop.state ≠ .stopped → low = true →
    ∃ t, exec (.estopChannelEvent .a low) s = .next t ∧ StopEntered s t ∧ t.links = s.links ∧
      t.stop = { s.stop with
        state := .stopped, channelA := true, discrepancy := if s.stop.channelB then none else some 0 }) ∧
  (∀ (low : Bool) (s : State), s.stop.channelB ≠ low → s.stop.state ≠ .stopped → low = true →
    ∃ t, exec (.estopChannelEvent .b low) s = .next t ∧ StopEntered s t ∧ t.links = s.links ∧
      t.stop = { s.stop with
        state := .stopped, channelB := true, discrepancy := if s.stop.channelA then none else some 0 }) ∧
  (∀ (low : Bool) (s : State), s.stop.channelA ≠ low → s.stop.state = .stopped →
    ∃ t, exec (.estopChannelEvent .a low) s = .next t ∧ t = { s with stop := t.stop } ∧
      t.stop = { s.stop with
        state := if low = false ∧ s.stop.channelB = false then .latched else .stopped, channelA := low
        discrepancy := if low = s.stop.channelB then none else some 0 }) ∧
  ∀ (low : Bool) (s : State), s.stop.channelB ≠ low → s.stop.state = .stopped →
    ∃ t, exec (.estopChannelEvent .b low) s = .next t ∧ t = { s with stop := t.stop } ∧
      t.stop = { s.stop with
        state := if low = false ∧ s.stop.channelA = false then .latched else .stopped, channelB := low
        discrepancy := if s.stop.channelA = low then none else some 0 }

/-- RELEASE ALL (R161): the flag is cleared, no claim carries ALL or OPERATOR, and a HELD claim of no group that carried nothing
else leaves HELD where its span meets no column. -/
def Obligations.ReleaseAllTaken : Prop :=
  ∀ (l : Link) (tag : Word16) (s : State), FullDesk s l →
    ∃ t, exec (.releaseAll l tag) s = .next t ∧
      t = { s with claims := t.claims, sets := t.sets, groups := t.groups, pointer := t.pointer, served := t.served
                   stop := t.stop, links := t.links } ∧
      t.stop = { s.stop with holdAll := false } ∧ (∀ c ∈ t.claims, c.reasons.all = false ∧ c.reasons.operator = false) ∧
      (ClaimLaws s → ∀ c, Leaves s c { c.reasons with all := false, operator := false } → HasLeft t c) ∧
      Answered s t l 16 tag (Reply.of .done)

/-- RESUME (R162): in LATCHED the state becomes RUN, the discrepancy mark is cleared, and OPERATOR stands in place of every ESTOP; in
STOPPED it is refused with STOPPED; in RUN it changes nothing. -/
def Obligations.ResumeTaken : Prop :=
  (∀ (l : Link) (tag : Word16) (s : State), FullDesk s l → s.stop.state = .latched →
    ∃ t, exec (.resume l tag) s = .next t ∧
      t = { s with claims := t.claims, sets := t.sets, groups := t.groups, pointer := t.pointer, served := t.served
                   stop := t.stop, links := t.links } ∧
      t.stop = { s.stop with state := .run, mark := false } ∧ (∀ c ∈ t.claims, c.reasons.estop = false) ∧
      (ClaimLaws s → ∀ c ∈ s.claims, c.state = .held → c.reasons.estop = true →
        ∃ d, t.claim? c.number = some d ∧ d.state = .held ∧ d.reasons.operator = true) ∧
      Answered s t l 17 tag (Reply.of .done)) ∧
  (∀ (l : Link) (tag : Word16) (s : State), FullDesk s l → s.stop.state = .stopped →
    ∃ t, exec (.resume l tag) s = .next t ∧ AnswerOnly s t l 17 tag (Reply.of .stopped)) ∧
  ∀ (l : Link) (tag : Word16) (s : State), FullDesk s l → s.stop.state = .run →
    ∃ t, exec (.resume l tag) s = .next t ∧ AnswerOnly s t l 17 tag (Reply.of .done)

/-! ## Claims -/

/-- CLAIM granted at once (case 3 of R47, R35, R7): the record joins the end of the creation order with its span, GRANTED for a MOVE
and STANDING for a STANDBY, not taken; its sets are ENGAGED and carry its number; TABLE_NEAR_FULL is latched at the
threshold; the arbiter's pointer and count stay. -/
def Obligations.ClaimGranted : Prop :=
  ∀ (l : Link) (tag : Word16) (q : ClaimReq) (n : Nat) (p : Plan) (s : State), FullDesk s l → formOk (.claim q) = true →
    s.claimCheck l q = none → s.freeClaim = some n → q.group = none → s.isNullMove q = false →
    s.grantPlan (claimRecord q l n) (claimRecord q l n).speed = some p →
    ∃ t d, exec (.claim l tag q) s = .next t ∧
      t = { s with claims := t.claims, sets := t.sets, bonds := t.bonds, links := t.links, attention := t.attention } ∧
      t.claims = s.claims ++ [d] ∧ d.number = n ∧ d.owner = l ∧ d.cls = q.cls ∧ d.mover = q.mover ∧
      d.state = (match q.kind with | .move => .granted | .standby => .standing) ∧ d.span = some p.span ∧
      d.memberTargets = p.targets ∧ d.grantedSpeed = d.requestedSpeed ∧ d.taken = false ∧ d.reasons = Reasons.empty ∧
      d.sup.isSome = true ∧
      (∀ k, t.setRec k = if k ∈ s.members q.mover ∧ 1 ≤ k ∧ k ≤ 128
        then { s.setRec k with state := .engaged, claim := some n } else s.setRec k) ∧
      (∀ b, t.bond? b = if q.mover = .bond b then (s.bond? b).map (fun x => { x with claim := some n }) else s.bond? b) ∧
      t.attention =
        (if s.nearFull ≤ s.claims.length + 1 then s.attention.latchTimes .tableNearFull 1 else s.attention) ∧
      Answered s t l 18 tag (Reply.done ([byteOf n] ++ be16 (match q.kind with | .move => q.second | .standby => 0)))

/-- CLAIM without a grant (cases 1, 2, 4 and 5 of R47, R81). A null move without keep makes no record; with keep it is ARRIVED and its
sets ENGAGED. A claim into a FORMING group waits there and joins its members. A claim that cannot be granted and may wait is
WAITING, its wait timer at 0 where it has a limit. One that may not wait is refused, and no record changes. -/
def Obligations.ClaimNotGranted : Prop :=
  ∀ (l : Link) (tag : Word16) (q : ClaimReq) (n : Nat) (s : State), FullDesk s l → formOk (.claim q) = true →
    s.claimCheck l q = none → s.freeClaim = some n →
    (s.isNullMove q = true → q.keep = false →
      ∃ t, exec (.claim l tag q) s = .next t ∧ AnswerOnly s t l 18 tag (Reply.of .nullMove)) ∧
    (s.isNullMove q = true → q.keep = true →
      ∃ t d, exec (.claim l tag q) s = .next t ∧ t.claims = s.claims ++ [d] ∧ d.number = n ∧ d.state = .arrived ∧
        t = { s with claims := t.claims, sets := t.sets, bonds := t.bonds, links := t.links, attention := t.attention } ∧
        (∀ k ∈ s.members q.mover, 1 ≤ k → k ≤ 128 → (t.setRec k).state = .engaged) ∧
        Answered s t l 18 tag { result := .nullMove, payload := [byteOf n] }) ∧
    (∀ g x, q.group = some g → s.group? g = some x → x.members.length + 1 ≠ x.expected →
      ∃ t d, exec (.claim l tag q) s = .next t ∧ t.claims = s.claims ++ [d] ∧ d.number = n ∧ d.state = .waiting ∧
        d.group = some g ∧ t.group? g = some { x with members := x.members ++ [n] } ∧
        t = { s with claims := t.claims, sets := t.sets, bonds := t.bonds, groups := t.groups, links := t.links
                     attention := t.attention } ∧
        Answered s t l 18 tag { result := .queued, payload := [byteOf n] }) ∧
    (∀ g x, q.group = some g → s.group? g = some x → x.members.length + 1 = x.expected →
      ∃ t y, exec (.claim l tag q) s = .next t ∧ t.group? g = some y ∧ y.members = x.members ++ [n] ∧ y.state ≠ .forming ∧
        t = { s with claims := t.claims, sets := t.sets, bonds := t.bonds, groups := t.groups, pointer := t.pointer
                     served := t.served, links := t.links, attention := t.attention } ∧
        Answered s t l 18 tag { result := .queued, payload := [byteOf n] }) ∧
    (q.group = none → s.isNullMove q = false → s.grantPlan (claimRecord q l n) (claimRecord q l n).speed = none →
      (q.waitAllowed = true →
        ∃ t d, exec (.claim l tag q) s = .next t ∧ t.claims = s.claims ++ [d] ∧ d.number = n ∧ d.owner = l ∧
          d.state = .waiting ∧ d.span = none ∧ d.waitTimer = q.waitLimit.map (fun _ => 0) ∧
          t = { s with claims := t.claims, sets := t.sets, bonds := t.bonds, links := t.links, attention := t.attention } ∧
          (∀ k, t.setRec k = { s.setRec k with claim := (t.setRec k).claim }) ∧
          Answered s t l 18 tag { result := .queued, payload := [byteOf n] }) ∧
      (q.waitAllowed = false → ∃ t y, exec (.claim l tag q) s = .next t ∧ AnswerOnly s t l 18 tag y ∧
        y.result = (if s.stop.state ≠ .run then .stopped else if s.stop.holdAll then .holding
          else if s.segmentsAny q.mover (fun x => decide (x = .broken)) then .segmentBusy else .conflict)))

/-- CLAIM refused by a check of R46: the result of the first check that fails, and no record changes; where all nine pass, none
refuses. The form check of every request (R16, R44, R45, R79), and the checks in their order of CONFIGURE SET (R17), RELEASE SET
(R18), REHANG (R19), BIND (R22), UNBIND (R23) and RETARGET (R48): each names the refusal of the first that fails. -/
def Obligations.ChecksOfRequests : Prop :=
  (∀ (l : Link) (tag : Word16) (q : ClaimReq) (r : Result) (s : State), FullDesk s l → formOk (.claim q) = true →
    s.claimCheck l q = some r →
    ∃ t, exec (.claim l tag q) s = .next t ∧ AnswerOnly s t l 18 tag (Reply.of r)) ∧
  (∀ (l : Link) (q : ClaimReq) (k : Nat) (s : State), BondsLawful s → (∀ j, j < k → CheckPasses s l q j) →
    ¬ CheckPasses s l q k → ∃ r, s.claimCheck l q = some r ∧ RefusesWith s l q k r) ∧
  (∀ (l : Link) (q : ClaimReq) (s : State), BondsLawful s → (∀ k, CheckPasses s l q k) → s.claimCheck l q = none) ∧
  (∀ r : Request, formOk r = true ↔ FormLawful r) ∧
  (∀ (s : State) (q : ConfigureReq), s.configureCheck q =
    if (s.setRec q.set).claim ≠ none then some .engaged
    else if (s.setRec q.set).locked = true then some .locked
    else if (List.range' 1 128).any (fun k => decide (k ≠ q.set) && (s.setRec k).setup.any fun u =>
        decide (u.rig.segment = q.segment ∧ u.rig.address = q.address)) = true then some .malformed
    else if (s.bus q.segment).state = .loop ∨
        (s.setRec q.set).setup.any (fun u => decide ((s.bus u.rig.segment).state = .loop)) = true then some .segmentBusy
    else none) ∧
  (∀ (s : State) (n : Nat), s.releaseCheck n =
    if (s.setRec n).setup = none then some .setVacant
    else if (s.setRec n).bond ≠ none then some .bonded
    else if (s.setRec n).claim ≠ none then some .engaged
    else if (s.setRec n).locked = true then some .locked
    else if (s.setRec n).setup.any (fun u => decide ((s.bus u.rig.segment).state = .loop)) = true then some .segmentBusy
    else none) ∧
  (∀ (s w : State) (q : RehangReq), w = { s with
      sets := Tab.put s.sets q.set { s.setRec q.set with setup := (s.setRec q.set).setup.map fun u => { u with hang := q.hang } } } →
    s.rehangCheck q =
      if (s.setRec q.set).setup = none then some (Reply.of .setVacant)
      else if (s.setRec q.set).state = .barred then some (Reply.of .setBarred)
      else if (s.setRec q.set).claim ≠ none then some (Reply.of .engaged)
      else if (s.setRec q.set).locked = true then some (Reply.of .locked)
      else if (s.setRec q.set).state = .resting ∧ s.untrusted (s.moverOf q.set) = false then
        match w.restingRegion (s.moverOf q.set) with
        | none => none
        | some c => (s.obstacle [s.moverOf q.set] c).map fun o => { result := .conflict, payload := o.bytes }
      else none) ∧
  (∀ (s : State) (ns : List Nat), s.bindCheck ns =
    if ns.any (fun n => decide ((s.setRec n).setup = none)) then some .setVacant
    else if ns.any (fun n => decide ((s.setRec n).bond ≠ none)) then some .bonded
    else match ns.find? (fun n => decide ((s.setRec n).state = .dark ∨ (s.setRec n).state = .barred)) with
      | some n => some (if (s.setRec n).state = .dark then .setDark else .setBarred)
      | none =>
        if ns.any (fun n => decide ((s.setRec n).claim ≠ none ∨ (s.setRec n).state = .engaged)) then some .engaged
        else if ns.any (fun n => (s.setRec n).locked) then some .locked else none) ∧
  (∀ (s : State) (x : BondRec), s.unbindCheck x =
    if x.claim ≠ none then some (Reply.of .engaged)
    else if x.members.any (fun n => (s.setRec n).locked) then some (Reply.of .locked)
    else (x.members.find? fun n => x.members.any fun k => decide (n ≠ k ∧ (s.setRec n).state = .resting ∧
        (s.setRec k).state = .resting) && (s.setRec n).setup.any fun u => (s.setRec k).setup.any fun v =>
          (u.restingRegion s.clearance (s.restOf n)).conflicts (v.restingRegion s.clearance (s.restOf k))).map
      fun n => { result := .conflict, payload := [1#8, byteOf n, 0#8] }) ∧
  ∀ (s : State) (c : ClaimRec) (q : RetargetReq) (n : Nat) (u : Setup), (s.members c.mover).head? = some n →
    (s.setRec n).setup = some u → (∀ k ∈ s.members c.mover, (s.setRec k).setup ≠ none) → s.retargetCheck c q =
      if c.kind = .standby ∨ c.state = .retiring ∨ c.state = .faulted ∨ c.state = .standing then some .wrongState
      else if (if c.state = .waiting then
          if (s.members c.mover).any (fun k => decide ((s.setRec k).restPosition = none)) then u.inTrims q.target
          else (s.members c.mover).all fun k => (s.setRec k).setup.any fun v =>
            v.inTrims (s.restOf k + ((q.target : Int) - s.restOf n))
        else (targetsFrom c.starts q.target).all fun p => (s.setRec p.1).setup.any fun v => v.inTrims p.2) = false then
        some .trim
      else if q.speed.any (fun v => (s.members c.mover).any fun k => (s.setRec k).setup.any fun w =>
        decide (w.rig.rated < v)) = true then some .speed
      else if c.state = .waiting ∧ c.group ≠ none ∧ (s.setRec n).restPosition ≠ none ∧
        ((q.target : Int) - s.restOf n).natAbs ≤ u.rig.arrivalTol then some .zeroTravel
      else none

/-- RETARGET (R48, R49): a WAITING claim takes the new target and speed; a live claim takes them with its new member targets and span,
is no longer taken, and from GRANTED, MOVING or ARRIVED is GRANTED. A refusal changes no record. -/
def Obligations.RetargetTaken : Prop :=
  ∀ (l : Link) (tag : Word16) (q : RetargetReq) (c : ClaimRec) (s : State), FullDesk s l → formOk (.retarget q) = true →
    s.claim? q.claim = some c → c.owner = l →
    (∀ r, s.retargetCheck c q = some r →
      ∃ t, exec (.retarget l tag q) s = .next t ∧ AnswerOnly s t l 19 tag (Reply.of r)) ∧
    (s.retargetCheck c q = none → c.state = .waiting →
      ∃ t d, exec (.retarget l tag q) s = .next t ∧ t.claim? q.claim = some d ∧ d.target = some q.target ∧
        d.requestedSpeed = some (q.speed.getD (c.requestedSpeed.getD 0)) ∧
        t = { s with claims := t.claims, sets := t.sets, groups := t.groups, pointer := t.pointer, served := t.served
                     links := t.links } ∧
        Answered s t l 19 tag (Reply.of .done)) ∧
    (∀ new old, s.retargetCheck c q = none → c.state ≠ .waiting → s.arrivedCheck c = none →
      s.sweptSpan (q.speed.getD (c.grantedSpeed.getD 0)) (s.lastPositions c.mover) (targetsFrom c.starts q.target) = some new →
      c.span = some old →
      (∀ r, s.spanRefusal c new old = some r →
        ∃ t, exec (.retarget l tag q) s = .next t ∧ AnswerOnly s t l 19 tag r) ∧
      (s.spanRefusal c new old = none → ClaimLaws s →
        ∃ t d, exec (.retarget l tag q) s = .next t ∧ t.claim? q.claim = some d ∧ d.target = some q.target ∧
          d.memberTargets = targetsFrom c.starts q.target ∧
          d.grantedSpeed = some (q.speed.getD (c.grantedSpeed.getD 0)) ∧ d.span = some new ∧ d.taken = false ∧
          (c.state ≠ .held → d.state = .granted) ∧ (c.state = .held → c.reasons.column = false → d.state = .held) ∧
          t = { s with claims := t.claims, sets := t.sets, groups := t.groups, pointer := t.pointer, served := t.served
                       links := t.links } ∧
          Answered s t l 19 tag (Reply.of .done)))

/-- RETIRE (R50, R39, R43, R8). A claim in GRANTED, MOVING or HELD is RETIRING with no reason and its span kept. A WAITING claim is
removed, and no pass follows. An ARRIVED, STANDING or FAULTED claim is removed: the sets of a FAULTED one are BARRED with
FAULTED_CLAIM, the others are RESTING at their last positions, or BARRED with TRIM out of range. A RETIRING claim is refused. -/
def Obligations.RetireTaken : Prop :=
  ∀ (l : Link) (tag : Word16) (n : Nat) (c : ClaimRec) (s : State), FullDesk s l → 1 ≤ n → n ≤ 160 →
    s.claim? n = some c → c.owner = l →
    (c.holdable = true →
      ∃ t d, exec (.retire l tag n) s = .next t ∧ t = { s with claims := t.claims, links := t.links } ∧
        t.claim? n = some d ∧ d.state = .retiring ∧ d.reasons = Reasons.empty ∧ d.span = c.span ∧
        (HeldExactly s → ∀ d, Bystander s n d → d ∈ t.claims) ∧ Answered s t l 20 tag (Reply.of .done)) ∧
    (c.state = .waiting →
      ∃ t, exec (.retire l tag n) s = .next t ∧ t.claim? n = none ∧
        t = { s with claims := t.claims, sets := t.sets, bonds := t.bonds, groups := t.groups, links := t.links
                     attention := t.attention } ∧
        (∀ k, t.setRec k = { s.setRec k with claim := (t.setRec k).claim }) ∧
        (c.group = none → ∀ d ∈ s.claims, d.number ≠ n → d ∈ t.claims) ∧ Answered s t l 20 tag (Reply.of .done)) ∧
    (c.state = .arrived ∨ c.state = .standing ∨ c.state = .faulted →
      ∃ t, exec (.retire l tag n) s = .next t ∧ t.claim? n = none ∧
        t = { s with claims := t.claims, sets := t.sets, bonds := t.bonds, groups := t.groups, pointer := t.pointer
                     served := t.served, links := t.links, attention := t.attention } ∧
        Answered s t l 20 tag (Reply.of .done) ∧
        ((∀ d ∈ s.claims, d.state ≠ .waiting) → ∀ k ∈ s.members c.mover, 1 ≤ k → k ≤ 128 → (t.setRec k).claim = none ∧
          (c.state = .faulted → (t.setRec k).state = .barred ∧ (t.setRec k).barredCause = some .faultedClaim ∧
            (t.setRec k).restPosition = none) ∧
          (c.state ≠ .faulted → ∀ u p, (s.setRec k).setup = some u → (s.setRec k).lastReport.map Report.position = some p →
            if (u.rig.lower : Int) - u.rig.arrivalTol ≤ p ∧ p ≤ (u.rig.upper : Int) + u.rig.arrivalTol
            then (t.setRec k).state = .resting ∧ (t.setRec k).restPosition = some p
            else (t.setRec k).state = .barred ∧ (t.setRec k).barredCause = some .trim))) ∧
    (c.state = .retiring → ∃ t, exec (.retire l tag n) s = .next t ∧ AnswerOnly s t l 20 tag (Reply.of .wrongState))

/-- HOLD CLAIM (R51): a claim in GRANTED, MOVING or HELD is HELD and carries OPERATOR, whoever owns it; in another state it is refused
with WRONG_STATE, and a number not in use with NO_SUCH. -/
def Obligations.HoldClaimTaken : Prop :=
  ∀ (l : Link) (tag : Word16) (n : Nat) (s : State), HoldDesk s l → 1 ≤ n → n ≤ 160 →
    ∃ t, exec (.holdClaim l tag n) s = .next t ∧
      match s.claim? n with
      | none => AnswerOnlyNow s t l 4 tag (Reply.of .noSuch)
      | some c =>
        if c.holdable = true then
          t = { s with claims := t.claims, links := t.links } ∧
            (∃ d, t.claim? n = some d ∧ d.state = .held ∧ d.reasons.operator = true ∧ d.span = c.span ∧ d.taken = c.taken) ∧
            (HeldExactly s → ∀ d, Bystander s n d → d ∈ t.claims) ∧ AnsweredNow s t l 4 tag (Reply.of .done)
        else AnswerOnlyNow s t l 4 tag (Reply.of .wrongState)

/-- RELEASE CLAIM (R52): a HELD claim of the requester loses OPERATOR; it leaves HELD where that was its last reason, it is in no
group and its span meets no column, and stays HELD while it carries a reason other than GROUP. In GRANTED or MOVING it is
answered DONE without a change, in another state refused; another desk's claim is NOT_OWNER. -/
def Obligations.ReleaseClaimTaken : Prop :=
  ∀ (l : Link) (tag : Word16) (n : Nat) (s : State), FullDesk s l → 1 ≤ n → n ≤ 160 →
    ∃ t, exec (.releaseClaim l tag n) s = .next t ∧
      match s.claim? n with
      | none => AnswerOnly s t l 21 tag (Reply.of .noSuch)
      | some c =>
        if c.owner ≠ l then AnswerOnly s t l 21 tag (Reply.of .notOwner)
        else if c.state = .held then
          t = { s with claims := t.claims, links := t.links } ∧ Answered s t l 21 tag (Reply.of .done) ∧
            (∃ d, t.claim? n = some d ∧ d.reasons.operator = false ∧ d.span = c.span ∧
              ({ c.reasons with operator := false, group := false } ≠ Reasons.empty → d.state = .held)) ∧
            (Leaves s c { c.reasons with operator := false } → HasLeft t c) ∧
            (HeldExactly s → ∀ d, Bystander s n d → d ∈ t.claims)
        else if c.running = true then AnswerOnly s t l 21 tag (Reply.of .done)
        else AnswerOnly s t l 21 tag (Reply.of .wrongState)

/-- ADOPT (R177, R150): from a LOST link every claim and group passes to the requester, at its place in the creation order, with OPERATOR in
place of DESK_LOST on every HELD claim that carried it; the answer holds how many of each. The requester's own link is
NOT_PERMITTED, a link that is not LOST is DESK_PRESENT. That the two counts have two bytes each is log entry 16. -/
def Obligations.AdoptTaken : Prop :=
  ∀ (l src : Link) (tag : Word16) (s : State), FullDesk s l →
    ∃ t, exec (.adopt l tag src.code) s = .next t ∧
      if src = l then AnswerOnly s t l 25 tag (Reply.of .notPermitted)
      else if (s.link src).presence ≠ .lost then AnswerOnly s t l 25 tag (Reply.of .deskPresent)
      else
        t = { s with claims := t.claims, sets := t.sets, groups := t.groups, pointer := t.pointer, served := t.served
                     links := t.links } ∧
          t.claims.map (fun c => (c.number, c.owner)) =
            s.claims.map (fun c => (c.number, if c.owner = src then l else c.owner)) ∧
          (∀ g, (t.group? g).map GroupRec.owner =
            (s.group? g).map fun x => if x.owner = src then l else x.owner) ∧
          (ClaimLaws s → ∀ c ∈ s.claims, c.owner = src → c.state = .held → c.reasons.deskLost = true →
            ∃ d, t.claim? c.number = some d ∧ d.owner = l ∧ d.state = .held ∧ d.reasons.deskLost = false ∧
              d.reasons.operator = true) ∧
          Answered s t l 25 tag (Reply.done
            (be16 (s.claims.countP fun c => decide (c.owner = src)) ++
              be16 ((List.range' 1 24).countP fun g => (s.group? g).any fun x => decide (x.owner = src))))

/-- WARM RESTART (R61, R28, R94, R119, R163): BUSY while a claim is in GRANTED, MOVING, HELD or RETIRING. Otherwise the Claim Table and the
Group Table are empty, the pointer is DL0 with count 0, hold-all is off, every RESTING or ENGAGED set is DARK with its identity
cleared, and every station's miss count is 0 and its fresh flag clear; what else each record holds is kept. That no fresh-flag
notice is given is log entry 28, that hand-offs not yet taken stay log entry 5. -/
def Obligations.WarmRestartTaken : Prop :=
  (∀ (l : Link) (tag : Word16) (s : State), FullDesk s l → (∃ c ∈ s.claims, c.holdable = true ∨ c.state = .retiring) →
    ∃ t, exec (.warmRestart l tag) s = .next t ∧ AnswerOnly s t l 24 tag (Reply.of .busy)) ∧
  ∀ (l : Link) (tag : Word16) (s : State), FullDesk s l → (∀ c ∈ s.claims, c.holdable = false ∧ c.state ≠ .retiring) →
    ∃ t, exec (.warmRestart l tag) s = .next t ∧
      t = { s with sets := t.sets, bonds := t.bonds, claims := [], pointer := .dl0, served := 0, groups := t.groups
                   buses := t.buses, stop := t.stop, links := t.links } ∧
      t.stop = { s.stop with holdAll := false } ∧ (∀ g, t.group? g = none) ∧
      (∀ b, t.bond? b = (s.bond? b).map fun x => { x with claim := none }) ∧
      (∀ n, t.setRec n =
        if (s.setRec n).state = .resting ∨ (s.setRec n).state = .engaged
        then { s.setRec n with state := .dark, identityVerified := false, restPosition := none, claim := none }
        else { s.setRec n with claim := none }) ∧
      (∀ f, t.bus f = { s.bus f with stations := (t.bus f).stations }) ∧
      (∀ f a, (t.bus f).station a = { (s.bus f).station a with missCount := 0, fresh := false }) ∧
      Answered s t l 24 tag (Reply.of .done)

/-! ## Keep-outs and groups -/

/-- ADD KEEPOUT (R56): a region that fits, with no mover left out, takes the lowest free record, and the answer names it; one that
does not fit is refused with CONFLICT, and a full table with TABLE_FULL. RETIRE KEEPOUT (R57) frees the record; a free number
is NO_SUCH. -/
def Obligations.KeepoutsAddedAndRetired : Prop :=
  (∀ (l : Link) (tag : Word16) (q : KeepoutReq) (s : State), FullDesk s l → formOk (.addKeepout q) = true →
    ∃ t, exec (.addKeepout l tag q) s = .next t ∧
      match s.obstacle [] { depthLo := q.depthLo, depthHi := q.depthHi, heightLo := q.heightLo, heightHi := q.heightHi } with
      | some o => AnswerOnly s t l 22 tag { result := .conflict, payload := o.bytes }
      | none =>
        ((∀ k, 1 ≤ k → k ≤ 16 → (Tab.record? s.keepouts k).isSome = true) → AnswerOnly s t l 22 tag (Reply.of .tableFull)) ∧
        ∀ n, 1 ≤ n → n ≤ 16 → Tab.record? s.keepouts n = none →
          (∀ k, 1 ≤ k → k < n → (Tab.record? s.keepouts k).isSome = true) →
          t = { s with keepouts := t.keepouts, links := t.links } ∧
            Tab.record? t.keepouts n = some
              { region := { depthLo := q.depthLo, depthHi := q.depthHi, heightLo := q.heightLo, heightHi := q.heightHi }
                tag := q.tag } ∧
            (∀ k, k ≠ n → Tab.record? t.keepouts k = Tab.record? s.keepouts k) ∧
            Answered s t l 22 tag (Reply.done [byteOf n])) ∧
  ∀ (l : Link) (tag : Word16) (n : Nat) (s : State), FullDesk s l → 1 ≤ n → n ≤ 16 →
    ∃ t, exec (.retireKeepout l tag n) s = .next t ∧
      match Tab.record? s.keepouts n with
      | none => AnswerOnly s t l 23 tag (Reply.of .noSuch)
      | some _ =>
        t = { s with keepouts := t.keepouts, claims := t.claims, sets := t.sets, groups := t.groups, pointer := t.pointer
                     served := t.served, links := t.links } ∧
          Tab.record? t.keepouts n = none ∧ (∀ k, k ≠ n → Tab.record? t.keepouts k = Tab.record? s.keepouts k) ∧
          Answered s t l 23 tag (Reply.of .done)

/-- OPEN GROUP (R80): the lowest free record becomes a FORMING group of the requester without members. CLOSE GROUP (R82): a FORMING
group of two or more members leaves FORMING with their number as its expected count. CANCEL GROUP (R83): a group that is not
granted is freed, and its members' claims are gone. -/
def Obligations.GroupsOpenedClosedCancelled : Prop :=
  (∀ (l : Link) (tag : Word16) (q : OpenGroupReq) (g : Nat) (s : State), FullDesk s l → formOk (.openGroup q) = true →
    1 ≤ g → g ≤ 24 → s.group? g = none → (∀ k, 1 ≤ k → k < g → (s.group? k).isSome = true) →
    ∃ t, exec (.openGroup l tag q) s = .next t ∧ t = { s with groups := t.groups, links := t.links } ∧
      t.group? g = some { owner := l, cls := q.cls, sync := q.sync, expected := q.expected, members := []
                          waitLimit := q.waitLimit, state := .forming, timer := none } ∧
      (∀ k, k ≠ g → t.group? k = s.group? k) ∧ Answered s t l 29 tag (Reply.done [byteOf g])) ∧
  (∀ (l : Link) (tag : Word16) (g : Nat) (x : GroupRec) (s : State), FullDesk s l → 1 ≤ g → g ≤ 24 → s.group? g = some x →
    x.owner = l → x.state = .forming → 2 ≤ x.members.length →
    ∃ t y, exec (.closeGroup l tag g) s = .next t ∧ t.group? g = some y ∧ y.state ≠ .forming ∧ y.members = x.members ∧
      y.expected = x.members.length ∧
      t = { s with claims := t.claims, sets := t.sets, groups := t.groups, pointer := t.pointer, served := t.served
                   links := t.links } ∧
      Answered s t l 30 tag (Reply.of .done)) ∧
  (∀ (l : Link) (tag : Word16) (g : Nat) (x : GroupRec) (s : State), FullDesk s l → 1 ≤ g → g ≤ 24 → s.group? g = some x →
    x.owner = l → x.state ≠ .granted →
    ∃ t, exec (.cancelGroup l tag g) s = .next t ∧ t.group? g = none ∧ (∀ k, k ≠ g → t.group? k = s.group? k) ∧
      (∀ n ∈ x.members, t.claim? n = none) ∧ (∀ c ∈ s.claims, c.number ∉ x.members → c ∈ t.claims) ∧
      t = { s with claims := t.claims, sets := t.sets, bonds := t.bonds, groups := t.groups, links := t.links } ∧
      Answered s t l 31 tag (Reply.of .done)) ∧
  ∀ (l : Link) (tag : Word16) (g : Nat) (x : GroupRec) (s : State), FullDesk s l → 1 ≤ g → g ≤ 24 → s.group? g = some x →
    (x.owner ≠ l →
      (∃ t, exec (.closeGroup l tag g) s = .next t ∧ AnswerOnly s t l 30 tag (Reply.of .notOwner)) ∧
      ∃ t, exec (.cancelGroup l tag g) s = .next t ∧ AnswerOnly s t l 31 tag (Reply.of .notOwner)) ∧
    (x.owner = l → x.state ≠ .forming ∨ x.members.length < 2 →
      ∃ t, exec (.closeGroup l tag g) s = .next t ∧ AnswerOnly s t l 30 tag (Reply.of .wrongState)) ∧
    (x.owner = l → x.state = .granted →
      ∃ t, exec (.cancelGroup l tag g) s = .next t ∧ AnswerOnly s t l 31 tag (Reply.of .wrongState))

/-- Holds pass between the members of a granted group (R90 to R92). In every step: while a member is stopping, no other member is in
GRANTED or MOVING, and members and lists agree. HOLD CLAIM of a member holds its running partners with GROUP alone. A member that
faults, here by its stall timer, gives every partner in GRANTED, MOVING or HELD the reason OPERATOR and takes GROUP from it.
RELEASE CLAIM of a member with a stopping partner leaves it HELD with GROUP, and with COLUMN too where the last reason went and its span
meets a column. RELEASE CLAIM of the last stopping member lets it go, and with it every partner that GROUP alone held, where no
column is met. -/
def Obligations.GroupHolds : Prop :=
  (∀ s t : State, ClaimLaws s → GroupLaws s → step s = .next t → GroupLaws t) ∧
  (∀ (l : Link) (tag : Word16) (n g : Nat) (c : ClaimRec) (s : State), HoldDesk s l → 1 ≤ n → n ≤ 160 → ClaimLaws s →
    GroupLaws s → s.claim? n = some c → c.holdable = true → c.group = some g →
    ∃ t, exec (.holdClaim l tag n) s = .next t ∧
      ∀ d ∈ s.claims, d.group = some g → d.number ≠ n → d.running = true →
        ∃ e, t.claim? d.number = some e ∧ e.state = .held ∧ e.reasons = { Reasons.empty with group := true } ∧
          e.span = d.span ∧ e.taken = d.taken) ∧
  (∀ (n g k : Nat) (c : ClaimRec) (s : State), ClaimLaws s → GroupLaws s → s.claim? n = some c → c.state = .moving →
    c.sup.bind Supervision.stall = some k → c.group = some g →
    ∃ t, exec (.stallTimerExpiry n) s = .next t ∧ ∀ d ∈ s.claims, d.group = some g → d.number ≠ n →
      (d.holdable = true → ∃ e, t.claim? d.number = some e ∧ e.state = .held ∧
        e.reasons = { d.reasons with operator := true, column := e.reasons.column, group := false } ∧
        (d.reasons.column = true → e.reasons.column = true)) ∧
      (d.state = .retiring ∨ d.state = .faulted →
        ∃ e, t.claim? d.number = some e ∧ e.state = d.state ∧ e.reasons = d.reasons)) ∧
  (∀ (l : Link) (tag : Word16) (n g : Nat) (c d : ClaimRec) (s : State), FullDesk s l → 1 ≤ n → n ≤ 160 → ClaimLaws s →
    GroupLaws s → s.claim? n = some c → c.owner = l → c.state = .held → c.group = some g →
    { c.reasons with operator := false, group := false } = Reasons.empty → d ∈ s.claims → d.group = some g →
    d.number ≠ n → Stopping d →
    ∃ t e, exec (.releaseClaim l tag n) s = .next t ∧ t.claim? n = some e ∧ e.state = .held ∧ e.span = c.span ∧
      e.reasons = { Reasons.empty with group := true, column := !c.reasons.group && s.spanMeetsColumn c }) ∧
  ∀ (l : Link) (tag : Word16) (n g : Nat) (c : ClaimRec) (s : State), FullDesk s l → 1 ≤ n → n ≤ 160 → ClaimLaws s →
    GroupLaws s → s.claim? n = some c → c.owner = l → c.state = .held → c.group = some g →
    { c.reasons with operator := false, group := false } = Reasons.empty → s.spanMeetsColumn c = false →
    (∀ d ∈ s.claims, d.group = some g → d.number ≠ n → ¬ Stopping d) →
    ∃ t, exec (.releaseClaim l tag n) s = .next t ∧ HasLeft t c ∧
      ∀ d ∈ s.claims, d.group = some g → d.state = .held → s.spanMeetsColumn d = false → HasLeft t d

/-! ## The Set Registry -/

/-- CONFIGURE SET (R17, R6): where no check of R17 refuses it, the set has the rig entry and hang sent, absent fields at their
defaults, and is DARK with its identity, rest position and reports cleared; where its station is new to it, the station is
configured for it and its segment is not IDLE. A refusal changes no record. -/
def Obligations.ConfigureSetTaken : Prop :=
  ∀ (l : Link) (tag : Word16) (q : ConfigureReq) (s : State), FullDesk s l → formOk (.configureSet q) = true →
    (∀ r, s.configureCheck q = some r →
      ∃ t, exec (.configureSet l tag q) s = .next t ∧ AnswerOnly s t l 33 tag (Reply.of r)) ∧
    (s.configureCheck q = none →
      ∃ t u, exec (.configureSet l tag q) s = .next t ∧
        t = { s with sets := t.sets, digest := t.digest, claims := t.claims, groups := t.groups, pointer := t.pointer
                     served := t.served, buses := t.buses, links := t.links, attention := t.attention } ∧
        t.setRec q.set = { s.setRec q.set with
          setup := some u, state := .dark, identityVerified := false, restPosition := none, barredCause := none
          lastReport := none } ∧
        u.rig = { segment := q.segment, address := q.address, depth := q.depth, lower := q.lower, upper := q.upper
                  rated := q.rated, stopMode := q.stopMode, stopConstant := q.stopConstant.getD 600
                  fixedAllowance := q.fixedAllowance, arrivalTol := q.arrivalTol.getD 5
                  stallWindow := q.stallWindow.getD 2000 } ∧
        u.hang = { top := q.top, drop := q.drop, fore := q.fore, aft := q.aft, sway := q.sway.getD 50, loadMin := q.loadMin
                   loadMax := q.loadMax } ∧
        (∀ k, k ≠ q.set → (t.setRec k).setup = (s.setRec k).setup) ∧
        ((∀ v, (s.setRec q.set).setup = some v → ¬ (v.rig.segment = q.segment ∧ v.rig.address = q.address)) →
          ((t.bus q.segment).station q.address).set = some q.set ∧ (t.bus q.segment).state ≠ .idle) ∧
        Answered s t l 33 tag (Reply.of .done))

/-- RELEASE SET (R18): where no check refuses it, the set is VACANT with the record of cold reset, its station is configured for no
set, and its fault summary is that of cold reset. REHANG (R19): where no check refuses it, the set's hang is the one sent and
its rig entry is kept. A refusal changes no record. -/
def Obligations.ReleaseAndRehang : Prop :=
  (∀ (l : Link) (tag : Word16) (n : Nat) (s : State), FullDesk s l → 1 ≤ n → n ≤ 128 →
    (∀ r, s.releaseCheck n = some r → ∃ t, exec (.releaseSet l tag n) s = .next t ∧ AnswerOnly s t l 34 tag (Reply.of r)) ∧
    (s.releaseCheck n = none →
      ∃ t, exec (.releaseSet l tag n) s = .next t ∧
        t = { s with sets := t.sets, digest := t.digest, claims := t.claims, groups := t.groups, pointer := t.pointer
                     served := t.served, buses := t.buses, links := t.links, attention := t.attention } ∧
        t.setRec n = SetRec.vacant ∧ (∀ k, k ≠ n → (t.setRec k).setup = (s.setRec k).setup) ∧
        t.faultSummary n = FaultSummary.reset ∧ (∀ k, k ≠ n → t.faultSummary k = s.faultSummary k) ∧
        (∀ u, (s.setRec n).setup = some u → ((t.bus u.rig.segment).station u.rig.address).set = none) ∧
        Answered s t l 34 tag (Reply.of .done))) ∧
  ∀ (l : Link) (tag : Word16) (q : RehangReq) (s : State), FullDesk s l → formOk (.rehang q) = true →
    (∀ r, s.rehangCheck q = some r → ∃ t, exec (.rehang l tag q) s = .next t ∧ AnswerOnly s t l 35 tag r) ∧
    (s.rehangCheck q = none →
      ∃ t, exec (.rehang l tag q) s = .next t ∧
        t = { s with sets := t.sets, digest := t.digest, claims := t.claims, groups := t.groups, pointer := t.pointer
                     served := t.served, links := t.links, attention := t.attention } ∧
        (t.setRec q.set).setup = (s.setRec q.set).setup.map (fun u => { u with hang := q.hang }) ∧
        (∀ k, k ≠ q.set → (t.setRec k).setup = (s.setRec k).setup) ∧ Answered s t l 35 tag (Reply.of .done))

/-- LOCK HANG and UNLOCK HANG (R20), for one set or for all; a VACANT set cannot be locked. REINSTATE (R21): a BARRED set is DARK with its
identity and cause cleared; any other set is refused. Nothing else changes. -/
def Obligations.LocksAndReinstate : Prop :=
  (∀ (l : Link) (tag : Word16) (x : Option Nat) (s : State), FullDesk s l → (∀ n, x = some n → 1 ≤ n ∧ n ≤ 128) →
    ((∀ n, x = some n → (s.setRec n).setup ≠ none) →
      ∃ t, exec (.lockHang l tag x) s = .next t ∧ t = { s with sets := t.sets, links := t.links } ∧
        (∀ k, t.setRec k = if (s.setRec k).setup ≠ none ∧ (x = none ∨ x = some k)
          then { s.setRec k with locked := true } else s.setRec k) ∧ Answered s t l 36 tag (Reply.of .done)) ∧
    (∀ n, x = some n → (s.setRec n).setup = none →
      ∃ t, exec (.lockHang l tag x) s = .next t ∧ AnswerOnly s t l 36 tag (Reply.of .setVacant))) ∧
  (∀ (l : Link) (tag : Word16) (x : Option Nat) (s : State), FullDesk s l → (∀ n, x = some n → 1 ≤ n ∧ n ≤ 128) →
    ∃ t, exec (.unlockHang l tag x) s = .next t ∧ t = { s with sets := t.sets, links := t.links } ∧
      (∀ k, t.setRec k = if x = none ∨ x = some k then { s.setRec k with locked := false } else s.setRec k) ∧
      Answered s t l 37 tag (Reply.of .done)) ∧
  ∀ (l : Link) (tag : Word16) (n : Nat) (s : State), FullDesk s l → 1 ≤ n → n ≤ 128 →
    ∃ t, exec (.reinstate l tag n) s = .next t ∧
      if (s.setRec n).state = .barred then
        t = { s with sets := t.sets, links := t.links } ∧
          t.setRec n = { s.setRec n with state := .dark, identityVerified := false, barredCause := none } ∧
          (∀ k, k ≠ n → t.setRec k = s.setRec k) ∧ Answered s t l 38 tag (Reply.of .done)
      else AnswerOnly s t l 38 tag (Reply.of .wrongState)

/-- BIND (R22): sets that pass every check become the members, ascending, of the lowest free bond. UNBIND (R23): the bond is freed and
its members belong to none. A refusal changes no record. -/
def Obligations.BondsMadeAndFreed : Prop :=
  (∀ (l : Link) (tag : Word16) (q : BindReq) (ns : List Nat) (s : State), FullDesk s l → formOk (.bind q) = true →
    ns = (List.range' 1 128).filter (fun n => decide (n ∈ q.sets)) →
    (∀ r, s.bindCheck ns = some r → ∃ t, exec (.bind l tag q) s = .next t ∧ AnswerOnly s t l 39 tag (Reply.of r)) ∧
    (∀ c o, s.bindCheck ns = none → s.restingAt ns s.restOf = some c → s.obstacle (ns.map Mover.set) c = some o →
      ∃ t, exec (.bind l tag q) s = .next t ∧ AnswerOnly s t l 39 tag { result := .conflict, payload := o.bytes }) ∧
    (∀ b, s.bindCheck ns = none → (∀ c, s.restingAt ns s.restOf = some c → s.fits (ns.map Mover.set) c = true) →
      1 ≤ b → b ≤ 16 → s.bond? b = none → (∀ k, 1 ≤ k → k < b → (s.bond? k).isSome = true) →
      ∃ t, exec (.bind l tag q) s = .next t ∧
        t = { s with sets := t.sets, bonds := t.bonds, digest := t.digest, links := t.links, attention := t.attention } ∧
        t.bond? b = some { members := ns, skew := q.skew.getD 25, claim := none } ∧
        (∀ k, k ≠ b → t.bond? k = s.bond? k) ∧
        (∀ n, t.setRec n = if n ∈ q.sets then { s.setRec n with bond := some b } else s.setRec n) ∧
        Answered s t l 39 tag (Reply.done [byteOf b]))) ∧
  ∀ (l : Link) (tag : Word16) (b : Nat) (s : State), FullDesk s l → 1 ≤ b → b ≤ 16 →
    ∃ t, exec (.unbind l tag b) s = .next t ∧
      match s.bond? b with
      | none => AnswerOnly s t l 40 tag (Reply.of .noSuch)
      | some x =>
        match s.unbindCheck x with
        | some r => AnswerOnly s t l 40 tag r
        | none =>
          t = { s with sets := t.sets, bonds := t.bonds, digest := t.digest, claims := t.claims, groups := t.groups
                       pointer := t.pointer, served := t.served, links := t.links, attention := t.attention } ∧
            t.bond? b = none ∧ (∀ k, k ≠ b → t.bond? k = s.bond? k) ∧
            (∀ n, (t.setRec n).bond = if n ∈ x.members then none else (s.setRec n).bond) ∧
            (∀ n, (t.setRec n).setup = (s.setRec n).setup) ∧ Answered s t l 40 tag (Reply.of .done)

/-! ## The fly bus -/

/-- POLL_BUILD (R96, R101 to R103): with no round in progress, a POLLING segment polls the first active station, or where there is none
the first idle station above the idle pointer, or the first idle one. The frame carries the content of R102; the toggle flips
exactly where the last content is present and differs. Nothing else of any station differs. That a build with no round in progress
forms its lists then is log entry 12; that a build in another state, or with a poll in progress, changes nothing is log entry 1. -/
def Obligations.PollBuilt : Prop :=
  (∀ (s : State) (n : Nat), s.contentFor n =
    if (s.setRec n).state = .dark ∧ (s.setRec n).identityVerified = false then { command := .identify, target := 0, cap := 0 }
    else if s.stop.state ≠ .run then { command := .halt, target := 0, cap := 0 }
    else match s.claimOf (s.moverOf n) with
      | none => { command := .stay, target := 0, cap := 0 }
      | some c =>
        if c.state = .granted ∨ c.state = .moving then
          { command := .go, target := positionIn c.memberTargets n, cap := c.grantedSpeed.getD 0 }
        else if c.state = .held ∨ c.state = .retiring ∨ c.state = .faulted then { command := .stop, target := 0, cap := 0 }
        else { command := .stay, target := 0, cap := 0 }) ∧
  (∀ (f : Segment) (active idle : List Nat) (s : State), (s.bus f).state = .polling → (s.bus f).poll = none →
    (s.bus f).round = none → (s.bus f).configured ≠ [] → 1 ≤ (s.bus f).idleSlice →
    active = (s.bus f).configured.filter (s.stationActive (s.bus f)) →
    idle = (s.bus f).configured.filter (fun a => !s.stationActive (s.bus f) a) →
    ∃ t p, exec (.pollBuild f) s = .next t ∧ (t.bus f).poll = some p ∧
      p.address = (active.head?.or ((idle.find? fun a => decide ((s.bus f).idlePointer < a)).or idle.head?)).getD 0) ∧
  (∀ (f : Segment) (x : Turn) (n : Nat) (s : State), (s.bus f).state = .polling → (s.bus f).poll = none →
    s.nextStation (s.bus f) = some x → ((s.bus f).station x.address).set = some n →
    ∃ t p, exec (.pollBuild f) s = .next t ∧ t = { s with buses := t.buses } ∧ (∀ g, g ≠ f → t.bus g = s.bus g) ∧
      t.bus f = { s.bus f with stations := (t.bus f).stations, idlePointer := (t.bus f).idlePointer
                               round := (t.bus f).round, poll := some p } ∧
      p.address = x.address ∧ p.set = n ∧ p.content = s.contentFor n ∧ p.orphaned = false ∧
      p.toggle = (if ((s.bus f).station x.address).lastContent = none ∨
          ((s.bus f).station x.address).lastContent = some p.content
        then ((s.bus f).station x.address).toggle else !((s.bus f).station x.address).toggle) ∧
      (t.bus f).station x.address =
        { (s.bus f).station x.address with toggle := p.toggle, lastContent := some p.content } ∧
      ∀ a, a ≠ x.address → (t.bus f).station a = (s.bus f).station a) ∧
  ∀ (f : Segment) (s : State), (s.bus f).state ≠ .polling ∨ (s.bus f).poll ≠ none → exec (.pollBuild f) s = .next s

/-- A poll ends in a miss (R96, R97, R108, R109): by its response window, a report gap, an unreadable report, or a report with a bad
check byte, else another address, else the other form. The station's miss count rises, to 3 at most, and its last outcome is
the miss; the miss of that kind is handed to the Travel Monitor for a live claim; the third miss clears the fresh flag and
makes a live claim FAULTED with STALE, or else a DARK or RESTING set BARRED with STATION. Short of the third, only this controller's
records differ. For a live claim the third miss also leaves the notice of the fresh flag cleared (R108). The order of the three
tests is log entry 21, the hand-off lines log entry 5. -/
def Obligations.PollMissed : Prop :=
  (∀ (p : Poll) (r : WireReport), reportMiss p r =
    if crc8 (reportData r) ≠ reportCheck r then some .badCheck
    else if (reportAddress r).toNat ≠ p.address then some .wrongAddress
    else if formExpected p.content.command r = false then some .wrongForm else none) ∧
  ∀ (f : Segment) (i : Instr) (k : MissKind) (p : Poll) (s : State),
    (i = .responseWindowExpiry f ∧ k = .noAnswer ∨ i = .reportGapExpiry f ∧ k = .incomplete ∨
      i = .reportUnreadable f .badCharacter ∧ k = .badCharacter ∨ i = .reportUnreadable f .wrongForm ∧ k = .wrongForm ∨
      ∃ r, i = .reportComplete f r ∧ reportMiss p r = some k) →
    (s.bus f).state = .polling → (s.bus f).poll = some p → p.orphaned = false → 1 ≤ p.address → p.address ≤ 64 →
    ∃ t, exec i s = .next t ∧ (t.bus f).poll = none ∧ (∀ g, g ≠ f → t.bus g = s.bus g) ∧
      (t.bus f).station p.address = { (s.bus f).station p.address with
        missCount := min 3 (((s.bus f).station p.address).missCount + 1), lastOutcome := some (.miss k)
        fresh := if ((s.bus f).station p.address).missCount = 2 then false else ((s.bus f).station p.address).fresh } ∧
      (∀ a, a ≠ p.address → (t.bus f).station a = (s.bus f).station a) ∧
      (t.bus f).outcomes = (s.bus f).outcomes ++ [{ set := p.set, cls := .miss, raw := none }] ∧
      (t.bus f).tmOutcomes =
        (if s.isLive p.set then (s.bus f).tmOutcomes ++ [{ p.travel none false with miss := some k }] else (s.bus f).tmOutcomes) ∧
      (t.bus f).freshNotices = (s.bus f).freshNotices ++
        (if ((s.bus f).station p.address).missCount = 2 ∧ s.isLive p.set = true
          then [{ set := p.set, address := p.address, held := ((s.bus f).station p.address).fresh }] else []) ∧
      (((s.bus f).station p.address).missCount ≠ 2 → t = { s with buses := t.buses }) ∧
      (((s.bus f).station p.address).missCount = 2 →
        (∀ c, s.liveClaim (s.moverOf p.set) = some c → c.state ≠ .faulted →
          ∃ d, t.claim? c.number = some d ∧ d.state = .faulted ∧ d.cause = some .stale) ∧
        (s.liveClaim (s.moverOf p.set) = none → 1 ≤ p.set → p.set ≤ 128 →
          (s.setRec p.set).state = .dark ∨ (s.setRec p.set).state = .resting →
          (t.setRec p.set).state = .barred ∧ (t.setRec p.set).barredCause = some .station ∧
            (t.setRec p.set).restPosition = none))

/-- A valid report judged (R104 to R107): the miss count is 0, the fresh flag set, the last outcome VALID; its class goes to the
Attention Unit, its content to the Travel Monitor for a live claim and to the Set Registry otherwise, an IDENT to the Set Registry
with the identity result written; an unknown status counts as DRIVE and its raw code goes along. A poll whose station has
stopped being configured is discarded, whatever ends it, and no block is told (R98). In each case the poll is over, an idle poll
sets the idle pointer, a round with no station left ends, and no other record differs. That the pointer is set here is log entry
13, that the next lists are formed by the next build and not here log entry 12, that the hand-offs wait in lines log entry 5. -/
def Obligations.ReportJudged : Prop :=
  (∀ (f : Segment) (p : Poll) (a st c : Byte) (e : Bool) (g : BitVec 3) (pos vel load : Word16) (y : Report) (w : Bus) (s : State),
    (s.bus f).state = .polling → (s.bus f).poll = some p → p.orphaned = false →
    reportMiss p (.ordinary a e g st pos vel load c) = none →
    y = { status := (statusOf? st).getD .drive, position := pos.toInt, velocity := vel.toInt, load := load.toNat } →
    w = { s.bus f with
      poll := none, idlePointer := if p.idlePart then p.address else (s.bus f).idlePointer
      round := (s.bus f).round.filter fun r => !(r.activeLeft.isEmpty && (r.idleLeft.getD r.idle).isEmpty)
      stations := Tab.put (s.bus f).stations p.address
        { (s.bus f).station p.address with missCount := 0, fresh := true, lastOutcome := some .valid }
      outcomes := (s.bus f).outcomes ++
        [{ set := p.set, cls := y.status.outcome, raw := if statusOf? st = none then some st else none }] } →
    ∃ t, exec (.reportComplete f (.ordinary a e g st pos vel load c)) s = .next t ∧ t = { s with buses := t.buses } ∧
      t.buses = s.buses.put f (if s.isLive p.set
        then { w with tmOutcomes := w.tmOutcomes ++ [{ set := p.set, address := p.address, report := some y, miss := none
                                                       echo := e, toggle := p.toggle, content := p.content }] }
        else { w with setReports := w.setReports ++ [{ set := p.set, report := y }] })) ∧
  (∀ (f : Segment) (p : Poll) (a k c : Byte) (e : Bool) (g : BitVec 3) (serial : Word32) (s : State),
    (s.bus f).state = .polling → (s.bus f).poll = some p → p.orphaned = false →
    reportMiss p (.ident a e g k serial c) = none →
    ∃ t, exec (.reportComplete f (.ident a e g k serial c)) s = .next t ∧ t = { s with buses := t.buses } ∧
      t.buses = s.buses.put f { s.bus f with
        poll := none, idlePointer := if p.idlePart then p.address else (s.bus f).idlePointer
        round := (s.bus f).round.filter fun r => !(r.activeLeft.isEmpty && (r.idleLeft.getD r.idle).isEmpty)
        stations := Tab.put (s.bus f).stations p.address { (s.bus f).station p.address with
          missCount := 0, fresh := true, lastOutcome := some .valid, identity := some (k.toNat, serial) }
        outcomes := (s.bus f).outcomes ++ [{ set := p.set, cls := .healthy, raw := none }]
        identReports := (s.bus f).identReports ++ [{ set := p.set, commissioned := k.toNat }] }) ∧
  ∀ (f : Segment) (i : Instr) (p : Poll) (s : State),
    (i = .responseWindowExpiry f ∨ i = .reportGapExpiry f ∨ (∃ w, i = .reportUnreadable f w) ∨ ∃ r, i = .reportComplete f r) →
    (s.bus f).state = .polling → (s.bus f).poll = some p → p.orphaned = true →
    ∃ t, exec i s = .next t ∧ t = { s with buses := t.buses } ∧ t.buses = s.buses.put f { s.bus f with
      poll := none, idlePointer := if p.idlePart then p.address else (s.bus f).idlePointer
      round := (s.bus f).round.filter fun r => !(r.activeLeft.isEmpty && (r.idleLeft.getD r.idle).isEmpty) }

/-- Break, break end and loop test (R110, R112 to R115, R149). A break on a POLLING segment makes it BROKEN, abandons its poll and
round, and every claim in GRANTED, MOVING or HELD with a set there is HELD with SEGMENT. At break end its stations start
afresh, with a fresh-flag notice for each set of a live claim, it is POLLING with new lists, or IDLE, and a HELD claim that
carried SEGMENT for it is HELD with OPERATOR instead. LOOP TEST of a POLLING segment with no live claim makes it LOOP; each
TEST frame counts as passed or failed; the last one leaves the result, and the segment POLLING with its stations afresh. FBn_DE is
asserted in POLLING for the 77 bit times of a poll's seven characters, which FBn_TXD shows; otherwise FBn_DE is released and
FBn_TXD marking (R95, R114, R120). That the fresh-flag notices wait in a line is log entry 5, that the lines are views log entry
17. -/
def Obligations.BreakAndLoop : Prop :=
  (∀ (f : Segment) (s : State), (s.bus f).state = .polling →
    ∃ t, exec (.breakDetected f) s = .next t ∧
      t = { s with claims := t.claims, buses := t.buses, attention := t.attention } ∧
      t.buses = s.buses.put f { s.bus f with state := .broken, poll := none, round := none } ∧
      t.attention = s.attention.latchTimes (Source.ofBreak f) 1 ∧
      t.claims.map ClaimRec.number = s.claims.map ClaimRec.number ∧
      (∀ c ∈ t.claims, s.moverOn c.mover f = true →
        c.running = false ∧ (c.state = .held → c.reasons.segment f = true)) ∧
      (NumbersDistinct s → ∀ c ∈ s.claims, s.moverOn c.mover f = true → c.holdable = true →
        HeldFor (fun r => r.segment f) t c) ∧
      (∀ c ∈ s.claims, c.holdable = false → c ∈ t.claims) ∧
      ∀ k, (t.bus f).de k = false ∧ (t.bus f).txd k = true) ∧
  (∀ (f : Segment) (s : State), (s.bus f).state = .broken →
    ∃ t, exec (.breakEnd f) s = .next t ∧
      t = { s with claims := t.claims, sets := t.sets, groups := t.groups, pointer := t.pointer, served := t.served
                   buses := t.buses } ∧
      (t.bus f).state = (if (s.bus f).configured = [] then .idle else .polling) ∧
      (∀ a, (t.bus f).station a = { (s.bus f).station a with missCount := 0, fresh := false }) ∧
      (∀ g, g ≠ f → t.bus g = s.bus g) ∧ (∀ c ∈ t.claims, c.reasons.segment f = false) ∧
      t.bus f = { s.bus f with
        state := (t.bus f).state, stations := (t.bus f).stations, poll := none
        round := if (s.bus f).configured = [] then none else some (s.formRound (s.bus f))
        freshNotices := (s.bus f).freshNotices ++ ((s.bus f).configured.filterMap fun a =>
          ((s.bus f).station a).set.map fun n => { set := n, address := a, held := ((s.bus f).station a).fresh }).filter
            fun y => (s.liveClaim (s.moverOf y.set)).isSome } ∧
      (ClaimLaws s → ∀ c ∈ s.claims, c.state = .held → c.reasons.segment f = true →
        ∃ d, t.claim? c.number = some d ∧ d.state = .held ∧ d.reasons.operator = true ∧ d.reasons.segment f = false ∧
          (∀ g, g ≠ f → d.reasons.segment g = c.reasons.segment g) ∧ d.span = c.span)) ∧
  (∀ (f : Segment) (s : State), ((s.bus f).state ≠ .polling → exec (.breakDetected f) s = .next s) ∧
    ((s.bus f).state ≠ .broken → exec (.breakEnd f) s = .next s)) ∧
  (∀ (l : Link) (tag : Word16) (f : Segment) (s : State), FullDesk s l →
    ∃ t, exec (.loopTest l tag f.code) s = .next t ∧
      if (s.bus f).state ≠ .polling then AnswerOnly s t l 44 tag (Reply.of .wrongState)
      else if s.claims.any (fun c => c.live && s.moverOn c.mover f) = true then
        AnswerOnly s t l 44 tag (Reply.of .segmentBusy)
      else t = { s with buses := t.buses, links := t.links } ∧ Answered s t l 44 tag (Reply.of .done) ∧
        t.buses = s.buses.put f { s.bus f with
          state := .loop, poll := none, round := none
          loop := some { left := (s.bus f).configured, passed := 0, failed := 0, lowestFailed := none } } ∧
        ∀ k, (t.bus f).de k = false ∧ (t.bus f).txd k = true) ∧
  (∀ (f : Segment) (x y : LoopRun) (a : Nat) (rest : List Nat) (cs : List (Option LineChar)) (s : State),
    (s.bus f).loop = some x → x.left = a :: rest →
    y = (if cs = (frameChars a { command := .test, target := a, cap := x.passed + x.failed + 1 } false).map some
      then { x with left := rest, passed := x.passed + 1 }
      else { x with left := rest, failed := x.failed + 1, lowestFailed := x.lowestFailed.or (some a) }) →
    ∃ t, exec (.testFrameCompared f cs) s = .next t ∧ (∀ g, g ≠ f → t.bus g = s.bus g) ∧
      if rest ≠ [] then t = { s with buses := t.buses } ∧ t.bus f = { s.bus f with loop := some y }
      else
        t = { s with claims := t.claims, sets := t.sets, groups := t.groups, pointer := t.pointer, served := t.served
                     buses := t.buses, attention := t.attention } ∧
          (t.bus f).state = .polling ∧ (t.bus f).loop = none ∧ (t.bus f).loopResult =
            some { passed := y.passed, failed := y.failed, lowestFailed := y.lowestFailed } ∧
          (∀ b, (t.bus f).station b = { (s.bus f).station b with missCount := 0, fresh := false }) ∧
          t.attention = s.attention.latchTimes .loopDone 1) ∧
  (∀ (f : Segment) (x : Turn) (n : Nat) (s : State), (s.bus f).state = .polling → (s.bus f).poll = none →
    s.nextStation (s.bus f) = some x → ((s.bus f).station x.address).set = some n →
    ∃ t p, exec (.pollBuild f) s = .next t ∧ (t.bus f).poll = some p ∧ p.sent = frameChars x.address p.content p.toggle ∧
      p.sent.length = 7 ∧ (∀ k, (t.bus f).de k = decide (k < 77)) ∧
      (∀ i j c, p.sent[i]? = some c → j < 11 → (t.bus f).txd (11 * i + j) = c.getLsbD j) ∧
      ∀ k, 77 ≤ k → (t.bus f).txd k = true) ∧
  (∀ (b : Bus) (k : Nat), b.state ≠ .polling ∨ b.poll = none → b.de k = false ∧ b.txd k = true) ∧
  ∀ (p : ResetPins) (w : List Instr) (f : Segment) (k : Nat),
    ((State.coldReset p w).bus f).de k = false ∧ ((State.coldReset p w).bus f).txd k = true

/-! ## Hand-offs -/

/-- The Attention Unit, the Set Registry and the Travel Monitor take the oldest hand-off of a segment. FAULT_SUMMARY_OUTCOME (R187):
the latest outcome is its class, which joins the accumulated classes, and a raw code replaces the last. SET_REPORT (R9, R10, R12): the
report is recorded, and a set is barred or laid to rest by the first test that applies. IDENT_REPORT (R11): a DARK set is verified, or
BARRED with IDENTITY. FRESH_FLAG_CLEARED_NOTICE (R124): the member's fresh report is emptied. That each takes the oldest of its line is
log entry 5; that an outcome class is recorded for a VACANT set too is log entry 37. -/
def Obligations.HandOffsTaken : Prop :=
  (∀ (f : Segment) (x : OutcomeNote) (xs : List OutcomeNote) (s : State), (s.bus f).outcomes = x :: xs →
    1 ≤ x.set → x.set ≤ 128 →
    ∃ t, exec (.faultSummaryOutcome f) s = .next t ∧ t = { s with buses := t.buses, attention := t.attention } ∧
      t.buses = s.buses.put f { s.bus f with outcomes := xs } ∧
      t.attention = { s.attention with faults := t.attention.faults } ∧
      t.faultSummary x.set = { latest := some x.cls, classes := (s.faultSummary x.set).classes.add x.cls
                               rawCode := x.raw.or (s.faultSummary x.set).rawCode } ∧
      ∀ n, n ≠ x.set → t.faultSummary n = s.faultSummary n) ∧
  (∀ (f : Segment) (x : SetReportNote) (xs : List SetReportNote) (u : Setup) (r : Report) (s : State),
    (s.bus f).setReports = x :: xs → x.report = r → 1 ≤ x.set → x.set ≤ 128 → (s.setRec x.set).setup = some u →
    ∃ t, exec (.setReport f) s = .next t ∧
      t = { s with sets := t.sets, claims := t.claims, groups := t.groups, pointer := t.pointer, served := t.served
                   buses := t.buses, attention := t.attention } ∧
      t.buses = s.buses.put f { s.bus f with setReports := xs } ∧ (t.setRec x.set).lastReport = some r ∧
      ((s.setRec x.set).state = .engaged ∨ (s.setRec x.set).state = .barred ∨
        (s.setRec x.set).state = .dark ∧ (s.setRec x.set).identityVerified = false →
        t.setRec x.set = { s.setRec x.set with lastReport := some r }) ∧
      ((s.setRec x.set).state = .resting → s.liveClaim (s.moverOf x.set) = none →
        if r.status.isFault = true then
          (t.setRec x.set).state = .barred ∧ (t.setRec x.set).barredCause = some .station
        else if u.loadOk r.load = false then (t.setRec x.set).state = .barred ∧ (t.setRec x.set).barredCause = some .load
        else if s.drifted x.set r.position = true then
          (t.setRec x.set).state = .barred ∧ (t.setRec x.set).barredCause = some .drift
        else t.setRec x.set = { s.setRec x.set with lastReport := some r }) ∧
      ((s.setRec x.set).state = .dark → (s.setRec x.set).identityVerified = true →
        if r.status = .running ∨ r.status = .stopping then
          t.setRec x.set = { s.setRec x.set with lastReport := some r }
        else if r.status.isFault = true then
          (t.setRec x.set).state = .barred ∧ (t.setRec x.set).barredCause = some .station
        else if u.inRange r.position = false then
          (t.setRec x.set).state = .barred ∧ (t.setRec x.set).barredCause = some .trim
        else if u.loadOk r.load = false then (t.setRec x.set).state = .barred ∧ (t.setRec x.set).barredCause = some .load
        else if (s.rollCallRegions x.set u r.position).all (s.fits [s.moverOf x.set]) = false then
          (t.setRec x.set).state = .barred ∧ (t.setRec x.set).barredCause = some .conflict
        else (t.setRec x.set).restPosition = some r.position ∧
          ((t.setRec x.set).state = .resting ∨ (t.setRec x.set).state = .engaged))) ∧
  (∀ (f : Segment) (x : IdentNote) (xs : List IdentNote) (s : State), (s.bus f).identReports = x :: xs →
    1 ≤ x.set → x.set ≤ 128 →
    ∃ t, exec (.identReport f) s = .next t ∧
      t = { s with sets := t.sets, claims := t.claims, groups := t.groups, pointer := t.pointer, served := t.served
                   buses := t.buses, attention := t.attention } ∧
      t.buses = s.buses.put f { s.bus f with identReports := xs } ∧
      if (s.setRec x.set).state = .dark ∧ (s.setRec x.set).identityVerified = false then
        if x.commissioned = x.set then t.setRec x.set = { s.setRec x.set with identityVerified := true }
        else (t.setRec x.set).state = .barred ∧ (t.setRec x.set).barredCause = some .identity
      else t.setRec x.set = s.setRec x.set) ∧
  ∀ (f : Segment) (y : FreshNotice) (xs : List FreshNotice) (s : State), (s.bus f).freshNotices = y :: xs →
    ∃ t, exec (.freshFlagClearedNotice f) s = .next t ∧ t = { s with claims := t.claims, buses := t.buses } ∧
      t.buses = s.buses.put f { s.bus f with freshNotices := xs } ∧
      (s.liveClaim (s.moverOf y.set) = none → t.claims = s.claims) ∧
      ∀ c, NumbersDistinct s → s.liveClaim (s.moverOf y.set) = some c → ∃ d, t.claim? c.number = some d ∧ d.state = c.state ∧
        ∀ m ∈ d.supMembers, m.set = y.set → m.fresh = none

/-- TM_POLL_OUTCOME (R122, R123), for a valid report of a live claim that is not FAULTED. A fault test that fails makes the claim FAULTED
with its cause: status, then load, then span, then skew (R135 to R138). Otherwise, by its state: the last mark sets the taken
flag, and a claim in no group enters MOVING from GRANTED (R126); the fifth counted poll that does not take gives NO_TAKE, as a
miss does (R127); the last member's arrival makes the claim ARRIVED or removes it (R129, R41); short of arrival, the stall timer
restarts and the references are reset where every member has progressed, and both run on otherwise (R130); a fresh report of
RUNNING after the stop window has run out gives NO_STOP (R134); the completion of a retirement removes it (R133). In every case the
report is recorded for its set. A report is taken fresh while the station's fresh flag is set, or was held until a clearing whose
notice waits still: the report then comes first, fills the field, and the notice empties it (R122, R124; how the two rules go
together is log entry 5). That the report which gives TAKEN is not tested for arrival is log entry 24, that the oldest hand-off
of a line is the one taken log entry 5. -/
def Obligations.TravelSupervised : Prop :=
  (∀ (s : State) (c : ClaimRec) (u : Setup) (r : Report), s.reportFault c u r =
    if r.status.isFault = true then some (.station r.status)
    else if u.loadOk r.load = false then some .load
    else if s.breaches c u r.position = true then some .breach
    else if s.skewed c = true then some .skew else none) ∧
  (∀ (c : ClaimRec) (n : Nat) (k : Content), c.counts n k = true ↔
    k = { command := .go, target := positionIn c.memberTargets n, cap := c.grantedSpeed.getD 0 }) ∧
  (∀ (s : State) (c : ClaimRec) (m : SupMember) (u : Setup) (gap : Nat), (s.setRec m.set).setup = some u →
    gap = (positionIn c.memberTargets m.set - m.lastPosition).natAbs →
    (s.progressed c m = true ↔ (∃ ref, m.stallRef = some ref ∧ gap + 10 ≤ ref) ∨ gap ≤ u.rig.arrivalTol) ∧
    (s.memberArrived c m = true ↔ ∃ y, m.fresh = some y ∧ (y.status = .ready ∨ y.status = .braked) ∧
      (y.position - positionIn c.memberTargets m.set).natAbs ≤ u.rig.arrivalTol)) ∧
  (∀ (f : Segment) (x : TravelNote) (xs : List TravelNote) (c e : ClaimRec) (u : Setup) (r : Report) (fresh takes : Bool)
      (s : State),
    (s.bus f).tmOutcomes = x :: xs → x.report = some r → 1 ≤ x.set → x.set ≤ 128 → (s.setRec x.set).setup = some u →
    s.liveClaim (s.moverOf x.set) = some c → c.state ≠ .faulted → ClaimLaws s →
    (fresh = true ↔ ((s.bus f).station x.address).fresh = true ∨
      ∃ y ∈ (s.bus f).freshNotices, y.set = x.set ∧ y.address = x.address ∧ y.held = true) → takes = (fresh && decide (x.echo = x.toggle)) →
    e = c.positioned x.set r fresh →
    ∃ t, exec (.tmPollOutcome f) s = .next t ∧
      t = { s with claims := t.claims, sets := t.sets, bonds := t.bonds, groups := t.groups, pointer := t.pointer
                   served := t.served, buses := t.buses, attention := t.attention } ∧
      t.buses = s.buses.put f { s.bus f with tmOutcomes := xs } ∧ (t.setRec x.set).lastReport = some r ∧
      (∀ k, s.reportFault e u r = some k →
        ∃ d, t.claim? c.number = some d ∧ d.state = .faulted ∧ d.cause = some k ∧ d.reasons = Reasons.empty ∧ d.span = c.span) ∧
      (s.reportFault e u r = none →
        (c.state = .granted ∨ c.state = .held → c.counts x.set x.content = true → c.marked x.set = false → takes = true →
          (∃ m ∈ c.supMembers, m.set = x.set) → (∀ m ∈ c.supMembers, m.set ≠ x.set → m.takenMark = true) →
          ∃ d, t.claim? c.number = some d ∧ d.taken = true ∧ (c.state = .granted → c.group = none → d.state = .moving)) ∧
        (c.state = .granted → c.counts x.set x.content = true → c.marked x.set = false → takes = false →
          c.windowRuns = true → (∃ m ∈ c.supMembers, m.set = x.set ∧ 4 ≤ m.takeCount) →
          ∃ d, t.claim? c.number = some d ∧ d.state = .faulted ∧ d.cause = some .noTake) ∧
        (c.state = .moving → (∀ m ∈ e.supMembers, s.memberArrived e m = true) → c.keep = true →
          ∃ d, t.claim? c.number = some d ∧ d.state = .arrived ∧ d.group = none ∧
            d.span = s.arrivedSpan c.mover e.freshPositions) ∧
        (c.state = .moving → (∀ m ∈ e.supMembers, s.memberArrived e m = true) → c.keep = false →
          t.claim? c.number = none) ∧
        (c.state = .moving → GroupLaws s → (∃ m ∈ e.supMembers, s.memberArrived e m = false) →
          (s.setRec x.set).state = .engaged →
          (∀ m ∈ e.supMembers, s.progressed e m = true) → t.claim? c.number = some { e with sup := e.sup.map fun y =>
            { y with stall := some 0, members := y.members.map fun m =>
              { m with stallRef := some (positionIn e.memberTargets m.set - m.lastPosition).natAbs } } }) ∧
        (c.state = .moving → GroupLaws s → (∃ m ∈ e.supMembers, s.memberArrived e m = false) →
          (s.setRec x.set).state = .engaged →
          (∃ m ∈ e.supMembers, s.progressed e m = false) → t.claim? c.number = some e) ∧
        (c.state = .held ∨ c.state = .retiring → c.sup.map Supervision.stopWindow = some .runOut → fresh = true →
          r.status = .running → (∃ m ∈ c.supMembers, m.set = x.set) →
          ∃ d, t.claim? c.number = some d ∧ d.state = .faulted ∧ d.cause = some .noStop ∧ d.span = c.span) ∧
        (c.state = .retiring → (∀ m ∈ e.supMembers, m.restedFresh = true) → t.claim? c.number = none))) ∧
  (∀ (f : Segment) (x : TravelNote) (xs : List TravelNote) (c : ClaimRec) (s : State),
    (s.bus f).tmOutcomes = x :: xs → x.report = none → s.liveClaim (s.moverOf x.set) = some c → ClaimLaws s →
    ∃ t, exec (.tmPollOutcome f) s = .next t ∧
      t = { s with claims := t.claims, buses := t.buses, attention := t.attention } ∧
      (c.state ≠ .granted → c.state ≠ .held → t.claims = s.claims) ∧
      (c.state = .granted → c.counts x.set x.content = true → c.marked x.set = false → c.windowRuns = true →
        (∃ m ∈ c.supMembers, m.set = x.set ∧ 4 ≤ m.takeCount) →
        ∃ d, t.claim? c.number = some d ∧ d.state = .faulted ∧ d.cause = some .noTake)) ∧
  ∀ (f : Segment) (x : TravelNote) (xs : List TravelNote) (r : Report) (s : State),
    (s.bus f).tmOutcomes = x :: xs → x.report = some r → 1 ≤ x.set → x.set ≤ 128 → (s.setRec x.set).setup ≠ none →
    (s.liveClaim (s.moverOf x.set)).all (fun c => decide (c.state = .faulted)) = true →
    ∃ t, exec (.tmPollOutcome f) s = .next t ∧ (t.setRec x.set).lastReport = some r ∧
      t.claims.map ClaimRec.number = s.claims.map ClaimRec.number

/-! ## Timers -/

/-- The timers run out. Time first passes for every record until that moment, as on the ticks (log entry 3). STALL_TIMER_EXPIRY (R131):
the MOVING claim is FAULTED with STALL. STOP_WINDOW_RUN_OUT (R134): the window is marked run out, and a member last seen RUNNING
gives NO_STOP. DEADLINE_EXPIRY (R140): the claim is late. WAIT_LIMIT_EXPIRY (R74): the claim is removed, its sets but for their claim
field as they were. GROUP_WAIT_LIMIT_EXPIRY (R85): the group and its claims are gone. DISCREPANCY_TIMER_EXPIRY (R155): the mark is
set. Each but the stop window latches its source. -/
def Obligations.TimersRunOut : Prop :=
  (∀ (n e : Nat) (c : ClaimRec) (s : State), s.claim? n = some c → c.state = .moving → c.sup.bind Supervision.stall = some e →
    ∃ t d, exec (.stallTimerExpiry n) s = .next t ∧
      t = { s.elapse (s.stallWindow c.mover - e) with claims := t.claims, attention := t.attention } ∧
      t.claim? n = some d ∧ d.state = .faulted ∧ d.cause = some .stall ∧ d.span = c.span ∧
      t.attention = s.attention.latchTimes .claimFault 1) ∧
  (∀ (n e : Nat) (c : ClaimRec) (s : State), s.claim? n = some c → c.state = .held ∨ c.state = .retiring →
    c.sup.map Supervision.stopWindow = some (.running e) →
    ∃ t d, exec (.stopWindowRunOut n) s = .next t ∧
      t = { s.elapse (s.stopLength c.mover - e) with claims := t.claims, attention := t.attention } ∧ t.claim? n = some d ∧
      if c.someRunning = true then d.state = .faulted ∧ d.cause = some .noStop ∧ t.attention = s.attention.latchTimes .claimFault 1
      else d.state = c.state ∧ d.sup.map Supervision.stopWindow = some .runOut ∧ t.attention = s.attention) ∧
  (∀ (n r : Nat) (c : ClaimRec) (s : State), s.claim? n = some c → c.sup.map Supervision.deadline = some (.running r) →
    ∃ t d, exec (.deadlineExpiry n) s = .next t ∧
      t = { s.elapse r with claims := t.claims, attention := s.attention.latchTimes .late 1 } ∧ t.claim? n = some d ∧
      d.late = true ∧ d.state = c.state ∧ d.sup.map Supervision.deadline = some .absent) ∧
  (∀ (n e : Nat) (c : ClaimRec) (s : State), s.claim? n = some c → c.state = .waiting → c.waitTimer = some e →
    ∃ t, exec (.waitLimitExpiry n) s = .next t ∧
      t = { s.elapse (100 * c.waitLimit.getD 0 - e) with
        claims := t.claims, sets := t.sets, bonds := t.bonds, attention := s.attention.latchTimes .waitExpired 1 } ∧
      t.claim? n = none ∧ ∀ k, t.setRec k = { s.setRec k with claim := (t.setRec k).claim }) ∧
  (∀ (g e : Nat) (x : GroupRec) (s : State), s.group? g = some x → x.state = .ready → x.timer = some e →
    ∃ t, exec (.groupWaitLimitExpiry g) s = .next t ∧
      t = { s.elapse (100 * x.waitLimit.getD 0 - e) with
        claims := t.claims, sets := t.sets, bonds := t.bonds, groups := t.groups
        attention := s.attention.latchTimes .waitExpired 1 } ∧
      t.group? g = none ∧ (∀ n ∈ x.members, t.claim? n = none) ∧
      ∀ k, t.setRec k = { s.setRec k with claim := (t.setRec k).claim }) ∧
  (∀ (e : Nat) (s : State), s.stop.discrepancy = some e →
    ∃ t, exec .discrepancyTimerExpiry s = .next t ∧
      t = { s.elapse (51 - e) with
        stop := { s.stop with mark := true, discrepancy := none }, attention := s.attention.latchTimes .discrepancy 1 }) ∧
  ∀ (a b : Nat) (s : State), s.elapse 0 = s ∧ s.elapse (a + b) = (s.elapse a).elapse b

/-! ## Resets -/

/-- COLD_RESET at the Clearance Table (R62). -/
def Obligations.ColdResetOfTheClearanceTable : Prop :=
  ∀ (p : ResetPins) (s : State), ∃ t, exec (.coldReset p) s = .next t ∧ t.claims = [] ∧
    (∀ n, Tab.record? t.keepouts n = none) ∧ t.clearance = 150 ∧ t.nearFull = 144 ∧ t.pointer = .dl0 ∧ t.served = 0 ∧
    (∀ l, t.weights.get l = 4) ∧ ∀ m, t.committed m = none ∧ t.column m = none

/-- COLD_RESET at the other blocks (R28, R94, R120, R163, R166, R180, R190), and the state the model starts in, which is that of a cold reset
with the pins of log entry 7. The commands still waiting are kept (log entry 27). -/
def Obligations.ColdResetOfTheOtherBlocks : Prop :=
  (∀ (p : ResetPins) (s : State), ∃ t, exec (.coldReset p) s = .next t ∧ t.pending = s.pending ∧
    (∀ n, t.setRec n = SetRec.vacant) ∧ (∀ b, t.bond? b = none) ∧ t.driftTolerance = 20 ∧ (∀ g, t.group? g = none) ∧
    (∀ f, (t.bus f).state = .idle ∧ (t.bus f).poll = none ∧ (t.bus f).round = none ∧ (t.bus f).loop = none ∧
      (t.bus f).loopResult = none ∧ (t.bus f).idlePointer = 0 ∧ (t.bus f).idleSlice = 8 ∧
      ∀ a, (t.bus f).station a = Station.reset) ∧
    t.stop = { state := if p.estopALow = false ∧ p.estopBLow = false then .latched else .stopped, holdAll := false
               channelA := p.estopALow, channelB := p.estopBLow
               discrepancy := if p.estopALow = p.estopBLow then none else some 0, mark := false } ∧
    (t.link .dl0).role = Straps.role p.straps0 ∧ (t.link .dl1).role = Straps.role p.straps1 ∧
    (t.link .dl2).role = Straps.role p.straps2 ∧
    (∀ l, (t.link l).layer0 = .free ∧ (t.link l).layer1 = .free ∧ (t.link l).queue = [] ∧ (t.link l).slot = none ∧
      (t.link l).priorityResponse = none ∧ (t.link l).presence = .absent ∧ (t.link l).window = 300) ∧
    (∀ n, t.attention.count n = 0) ∧ t.attention.sequence = 0 ∧ t.attention.mode = .latest ∧
    (∀ n, t.faultSummary n = FaultSummary.reset) ∧ t.attention.output .urgent = false ∧
    t.attention.output .routine = false) ∧
  (∀ a b : Bool, Straps.role { role1 := a, role0 := b } =
    if a then (if b then .full else .hold) else if b then .lookup else .off) ∧
  ∀ s : State, exec (.coldReset State.resetPins) s = .next (State.reset.withPending s.pending)

/-! ## Laws that every step keeps -/

/-- The laws of the Claim Table and the Stop Controller are kept by every step: claim numbers are distinct and in range; HELD goes with a
reason; out of RUN, and under hold-all, nothing is in GRANTED or MOVING; the stop state agrees with the channels; a group that is not
granted has WAITING members. -/
def Obligations.ClaimLawsKept : Prop := ∀ s t : State, ClaimLaws s → step s = .next t → ClaimLaws t

/-- The laws of the Set Registry and the fly bus controllers are kept by every step: stations and rig entries agree, no two configured sets
name one station, the segment states agree with their stations, and the digest is that of the tables. -/
def Obligations.TowerLawsKept : Prop :=
  (∀ s t : State, TowerLaws s → step s = .next t → TowerLaws t) ∧
  ∀ (s : State) (n k : Nat) (u v : Setup), StationsKnown s → (s.setRec n).setup = some u → (s.setRec k).setup = some v →
    u.rig.segment = v.rig.segment → u.rig.address = v.rig.address → n = k

/-- The bounds of the parameters, counts, miss counts and queues are kept by every step, and a link of role OFF stays idle. -/
def Obligations.BoundsKept : Prop := ∀ s t : State, Bounds s → step s = .next t → Bounds t

/-- The separation of the air (R33) and the laws it stands on. Every step keeps the laws of sets, bonds and claims: a bond's members
name it (R15), ENGAGED goes with a live claim, RESTING and ENGAGED sets hold a rest position (R5, R7), and a live claim has a span
and a record of its sets (R32, R121). Every step keeps the committed regions apart, given RestsInside, which says what the rules do
not: they commit a resting region within its span, and the members' own regions at an UNBIND, without a check, while a set may
stand up to the drift tolerance off its rest position and REHANG does not check a member of an untrusted bond. Without
RestsInside, what adds air keeps them apart: a pass of the arbiter, a CLAIM other than a null move with keep, and ADD KEEPOUT. -/
def Obligations.SeparationKept : Prop :=
  (∀ s t : State, ClaimLaws s → AirLaws s → step s = .next t → AirLaws t) ∧
  (∀ s t : State, ClaimLaws s → AirLaws s → RestsInside s → Separated s → step s = .next t → Separated t) ∧
  (∀ s : State, ClaimLaws s → Separated s → Separated s.pass) ∧
  (∀ (l : Link) (tag : Word16) (q : ClaimReq) (s t : State), ClaimLaws s → Separated s →
    s.isNullMove q = false ∨ q.keep = false → exec (.claim l tag q) s = .next t → Separated t) ∧
  ∀ (l : Link) (tag : Word16) (q : KeepoutReq) (s t : State), Separated s → exec (.addKeepout l tag q) s = .next t →
    Separated t

/-- The state after cold reset has every law, whatever the pins. -/
def Obligations.LawsHoldAtReset : Prop :=
  ∀ (p : ResetPins) (waiting : List Instr), ClaimLaws (State.coldReset p waiting) ∧ GroupLaws (State.coldReset p waiting) ∧
    TowerLaws (State.coldReset p waiting) ∧ Bounds (State.coldReset p waiting) ∧ AirLaws (State.coldReset p waiting) ∧
    RestsInside (State.coldReset p waiting) ∧ Separated (State.coldReset p waiting)
end

