-- ==== Sys2Proof/Laws/State.lean ====
section
/-! SUPPORT. One lemma for each field of State after each update that names one: what the update leaves, true by rfl. -/

namespace Sys2Proof.Machine

/-! ## The elementary updates -/

/-! ### mapClaims -/

@[simp] theorem mapClaims_sets (s : State) (f : ClaimRec → ClaimRec) : (s.mapClaims f).sets = s.sets := rfl
@[simp] theorem mapClaims_bonds (s : State) (f : ClaimRec → ClaimRec) : (s.mapClaims f).bonds = s.bonds := rfl
@[simp] theorem mapClaims_driftTolerance (s : State) (f : ClaimRec → ClaimRec) : (s.mapClaims f).driftTolerance = s.driftTolerance := rfl
@[simp] theorem mapClaims_digest (s : State) (f : ClaimRec → ClaimRec) : (s.mapClaims f).digest = s.digest := rfl
@[simp] theorem mapClaims_claims (s : State) (f : ClaimRec → ClaimRec) : (s.mapClaims f).claims = s.claims.map f := rfl
@[simp] theorem mapClaims_keepouts (s : State) (f : ClaimRec → ClaimRec) : (s.mapClaims f).keepouts = s.keepouts := rfl
@[simp] theorem mapClaims_clearance (s : State) (f : ClaimRec → ClaimRec) : (s.mapClaims f).clearance = s.clearance := rfl
@[simp] theorem mapClaims_nearFull (s : State) (f : ClaimRec → ClaimRec) : (s.mapClaims f).nearFull = s.nearFull := rfl
@[simp] theorem mapClaims_pointer (s : State) (f : ClaimRec → ClaimRec) : (s.mapClaims f).pointer = s.pointer := rfl
@[simp] theorem mapClaims_served (s : State) (f : ClaimRec → ClaimRec) : (s.mapClaims f).served = s.served := rfl
@[simp] theorem mapClaims_weights (s : State) (f : ClaimRec → ClaimRec) : (s.mapClaims f).weights = s.weights := rfl
@[simp] theorem mapClaims_groups (s : State) (f : ClaimRec → ClaimRec) : (s.mapClaims f).groups = s.groups := rfl
@[simp] theorem mapClaims_buses (s : State) (f : ClaimRec → ClaimRec) : (s.mapClaims f).buses = s.buses := rfl
@[simp] theorem mapClaims_stop (s : State) (f : ClaimRec → ClaimRec) : (s.mapClaims f).stop = s.stop := rfl
@[simp] theorem mapClaims_links (s : State) (f : ClaimRec → ClaimRec) : (s.mapClaims f).links = s.links := rfl
@[simp] theorem mapClaims_attention (s : State) (f : ClaimRec → ClaimRec) : (s.mapClaims f).attention = s.attention := rfl
@[simp] theorem mapClaims_pending (s : State) (f : ClaimRec → ClaimRec) : (s.mapClaims f).pending = s.pending := rfl

/-! ### dropClaim -/

@[simp] theorem dropClaim_sets (s : State) (n : Nat) : (s.dropClaim n).sets = s.sets := rfl
@[simp] theorem dropClaim_bonds (s : State) (n : Nat) : (s.dropClaim n).bonds = s.bonds := rfl
@[simp] theorem dropClaim_driftTolerance (s : State) (n : Nat) : (s.dropClaim n).driftTolerance = s.driftTolerance := rfl
@[simp] theorem dropClaim_digest (s : State) (n : Nat) : (s.dropClaim n).digest = s.digest := rfl
@[simp] theorem dropClaim_claims (s : State) (n : Nat) : (s.dropClaim n).claims = s.claims.filter fun c => decide (c.number ≠ n) := rfl
@[simp] theorem dropClaim_keepouts (s : State) (n : Nat) : (s.dropClaim n).keepouts = s.keepouts := rfl
@[simp] theorem dropClaim_clearance (s : State) (n : Nat) : (s.dropClaim n).clearance = s.clearance := rfl
@[simp] theorem dropClaim_nearFull (s : State) (n : Nat) : (s.dropClaim n).nearFull = s.nearFull := rfl
@[simp] theorem dropClaim_pointer (s : State) (n : Nat) : (s.dropClaim n).pointer = s.pointer := rfl
@[simp] theorem dropClaim_served (s : State) (n : Nat) : (s.dropClaim n).served = s.served := rfl
@[simp] theorem dropClaim_weights (s : State) (n : Nat) : (s.dropClaim n).weights = s.weights := rfl
@[simp] theorem dropClaim_groups (s : State) (n : Nat) : (s.dropClaim n).groups = s.groups := rfl
@[simp] theorem dropClaim_buses (s : State) (n : Nat) : (s.dropClaim n).buses = s.buses := rfl
@[simp] theorem dropClaim_stop (s : State) (n : Nat) : (s.dropClaim n).stop = s.stop := rfl
@[simp] theorem dropClaim_links (s : State) (n : Nat) : (s.dropClaim n).links = s.links := rfl
@[simp] theorem dropClaim_attention (s : State) (n : Nat) : (s.dropClaim n).attention = s.attention := rfl
@[simp] theorem dropClaim_pending (s : State) (n : Nat) : (s.dropClaim n).pending = s.pending := rfl

/-! ### updSet -/

@[simp] theorem updSet_sets (s : State) (n : Nat) (f : SetRec → SetRec) : (s.updSet n f).sets = Tab.put s.sets n (f (s.setRec n)) := rfl
@[simp] theorem updSet_bonds (s : State) (n : Nat) (f : SetRec → SetRec) : (s.updSet n f).bonds = s.bonds := rfl
@[simp] theorem updSet_driftTolerance (s : State) (n : Nat) (f : SetRec → SetRec) : (s.updSet n f).driftTolerance = s.driftTolerance := rfl
@[simp] theorem updSet_digest (s : State) (n : Nat) (f : SetRec → SetRec) : (s.updSet n f).digest = s.digest := rfl
@[simp] theorem updSet_claims (s : State) (n : Nat) (f : SetRec → SetRec) : (s.updSet n f).claims = s.claims := rfl
@[simp] theorem updSet_keepouts (s : State) (n : Nat) (f : SetRec → SetRec) : (s.updSet n f).keepouts = s.keepouts := rfl
@[simp] theorem updSet_clearance (s : State) (n : Nat) (f : SetRec → SetRec) : (s.updSet n f).clearance = s.clearance := rfl
@[simp] theorem updSet_nearFull (s : State) (n : Nat) (f : SetRec → SetRec) : (s.updSet n f).nearFull = s.nearFull := rfl
@[simp] theorem updSet_pointer (s : State) (n : Nat) (f : SetRec → SetRec) : (s.updSet n f).pointer = s.pointer := rfl
@[simp] theorem updSet_served (s : State) (n : Nat) (f : SetRec → SetRec) : (s.updSet n f).served = s.served := rfl
@[simp] theorem updSet_weights (s : State) (n : Nat) (f : SetRec → SetRec) : (s.updSet n f).weights = s.weights := rfl
@[simp] theorem updSet_groups (s : State) (n : Nat) (f : SetRec → SetRec) : (s.updSet n f).groups = s.groups := rfl
@[simp] theorem updSet_buses (s : State) (n : Nat) (f : SetRec → SetRec) : (s.updSet n f).buses = s.buses := rfl
@[simp] theorem updSet_stop (s : State) (n : Nat) (f : SetRec → SetRec) : (s.updSet n f).stop = s.stop := rfl
@[simp] theorem updSet_links (s : State) (n : Nat) (f : SetRec → SetRec) : (s.updSet n f).links = s.links := rfl
@[simp] theorem updSet_attention (s : State) (n : Nat) (f : SetRec → SetRec) : (s.updSet n f).attention = s.attention := rfl
@[simp] theorem updSet_pending (s : State) (n : Nat) (f : SetRec → SetRec) : (s.updSet n f).pending = s.pending := rfl

/-! ### putGroup -/

@[simp] theorem putGroup_sets (s : State) (g : Nat) (x : Option GroupRec) : (s.putGroup g x).sets = s.sets := rfl
@[simp] theorem putGroup_bonds (s : State) (g : Nat) (x : Option GroupRec) : (s.putGroup g x).bonds = s.bonds := rfl
@[simp] theorem putGroup_driftTolerance (s : State) (g : Nat) (x : Option GroupRec) : (s.putGroup g x).driftTolerance = s.driftTolerance := rfl
@[simp] theorem putGroup_digest (s : State) (g : Nat) (x : Option GroupRec) : (s.putGroup g x).digest = s.digest := rfl
@[simp] theorem putGroup_claims (s : State) (g : Nat) (x : Option GroupRec) : (s.putGroup g x).claims = s.claims := rfl
@[simp] theorem putGroup_keepouts (s : State) (g : Nat) (x : Option GroupRec) : (s.putGroup g x).keepouts = s.keepouts := rfl
@[simp] theorem putGroup_clearance (s : State) (g : Nat) (x : Option GroupRec) : (s.putGroup g x).clearance = s.clearance := rfl
@[simp] theorem putGroup_nearFull (s : State) (g : Nat) (x : Option GroupRec) : (s.putGroup g x).nearFull = s.nearFull := rfl
@[simp] theorem putGroup_pointer (s : State) (g : Nat) (x : Option GroupRec) : (s.putGroup g x).pointer = s.pointer := rfl
@[simp] theorem putGroup_served (s : State) (g : Nat) (x : Option GroupRec) : (s.putGroup g x).served = s.served := rfl
@[simp] theorem putGroup_weights (s : State) (g : Nat) (x : Option GroupRec) : (s.putGroup g x).weights = s.weights := rfl
@[simp] theorem putGroup_groups (s : State) (g : Nat) (x : Option GroupRec) : (s.putGroup g x).groups = Tab.put s.groups g x := rfl
@[simp] theorem putGroup_buses (s : State) (g : Nat) (x : Option GroupRec) : (s.putGroup g x).buses = s.buses := rfl
@[simp] theorem putGroup_stop (s : State) (g : Nat) (x : Option GroupRec) : (s.putGroup g x).stop = s.stop := rfl
@[simp] theorem putGroup_links (s : State) (g : Nat) (x : Option GroupRec) : (s.putGroup g x).links = s.links := rfl
@[simp] theorem putGroup_attention (s : State) (g : Nat) (x : Option GroupRec) : (s.putGroup g x).attention = s.attention := rfl
@[simp] theorem putGroup_pending (s : State) (g : Nat) (x : Option GroupRec) : (s.putGroup g x).pending = s.pending := rfl

/-! ### putKeepout -/

@[simp] theorem putKeepout_sets (s : State) (n : Nat) (x : Option Keepout) : (s.putKeepout n x).sets = s.sets := rfl
@[simp] theorem putKeepout_bonds (s : State) (n : Nat) (x : Option Keepout) : (s.putKeepout n x).bonds = s.bonds := rfl
@[simp] theorem putKeepout_driftTolerance (s : State) (n : Nat) (x : Option Keepout) : (s.putKeepout n x).driftTolerance = s.driftTolerance := rfl
@[simp] theorem putKeepout_digest (s : State) (n : Nat) (x : Option Keepout) : (s.putKeepout n x).digest = s.digest := rfl
@[simp] theorem putKeepout_claims (s : State) (n : Nat) (x : Option Keepout) : (s.putKeepout n x).claims = s.claims := rfl
@[simp] theorem putKeepout_keepouts (s : State) (n : Nat) (x : Option Keepout) : (s.putKeepout n x).keepouts = Tab.put s.keepouts n x := rfl
@[simp] theorem putKeepout_clearance (s : State) (n : Nat) (x : Option Keepout) : (s.putKeepout n x).clearance = s.clearance := rfl
@[simp] theorem putKeepout_nearFull (s : State) (n : Nat) (x : Option Keepout) : (s.putKeepout n x).nearFull = s.nearFull := rfl
@[simp] theorem putKeepout_pointer (s : State) (n : Nat) (x : Option Keepout) : (s.putKeepout n x).pointer = s.pointer := rfl
@[simp] theorem putKeepout_served (s : State) (n : Nat) (x : Option Keepout) : (s.putKeepout n x).served = s.served := rfl
@[simp] theorem putKeepout_weights (s : State) (n : Nat) (x : Option Keepout) : (s.putKeepout n x).weights = s.weights := rfl
@[simp] theorem putKeepout_groups (s : State) (n : Nat) (x : Option Keepout) : (s.putKeepout n x).groups = s.groups := rfl
@[simp] theorem putKeepout_buses (s : State) (n : Nat) (x : Option Keepout) : (s.putKeepout n x).buses = s.buses := rfl
@[simp] theorem putKeepout_stop (s : State) (n : Nat) (x : Option Keepout) : (s.putKeepout n x).stop = s.stop := rfl
@[simp] theorem putKeepout_links (s : State) (n : Nat) (x : Option Keepout) : (s.putKeepout n x).links = s.links := rfl
@[simp] theorem putKeepout_attention (s : State) (n : Nat) (x : Option Keepout) : (s.putKeepout n x).attention = s.attention := rfl
@[simp] theorem putKeepout_pending (s : State) (n : Nat) (x : Option Keepout) : (s.putKeepout n x).pending = s.pending := rfl

/-! ### putBus -/

@[simp] theorem putBus_sets (s : State) (f : Segment) (b : Bus) : (s.putBus f b).sets = s.sets := rfl
@[simp] theorem putBus_bonds (s : State) (f : Segment) (b : Bus) : (s.putBus f b).bonds = s.bonds := rfl
@[simp] theorem putBus_driftTolerance (s : State) (f : Segment) (b : Bus) : (s.putBus f b).driftTolerance = s.driftTolerance := rfl
@[simp] theorem putBus_digest (s : State) (f : Segment) (b : Bus) : (s.putBus f b).digest = s.digest := rfl
@[simp] theorem putBus_claims (s : State) (f : Segment) (b : Bus) : (s.putBus f b).claims = s.claims := rfl
@[simp] theorem putBus_keepouts (s : State) (f : Segment) (b : Bus) : (s.putBus f b).keepouts = s.keepouts := rfl
@[simp] theorem putBus_clearance (s : State) (f : Segment) (b : Bus) : (s.putBus f b).clearance = s.clearance := rfl
@[simp] theorem putBus_nearFull (s : State) (f : Segment) (b : Bus) : (s.putBus f b).nearFull = s.nearFull := rfl
@[simp] theorem putBus_pointer (s : State) (f : Segment) (b : Bus) : (s.putBus f b).pointer = s.pointer := rfl
@[simp] theorem putBus_served (s : State) (f : Segment) (b : Bus) : (s.putBus f b).served = s.served := rfl
@[simp] theorem putBus_weights (s : State) (f : Segment) (b : Bus) : (s.putBus f b).weights = s.weights := rfl
@[simp] theorem putBus_groups (s : State) (f : Segment) (b : Bus) : (s.putBus f b).groups = s.groups := rfl
@[simp] theorem putBus_buses (s : State) (f : Segment) (b : Bus) : (s.putBus f b).buses = s.buses.put f b := rfl
@[simp] theorem putBus_stop (s : State) (f : Segment) (b : Bus) : (s.putBus f b).stop = s.stop := rfl
@[simp] theorem putBus_links (s : State) (f : Segment) (b : Bus) : (s.putBus f b).links = s.links := rfl
@[simp] theorem putBus_attention (s : State) (f : Segment) (b : Bus) : (s.putBus f b).attention = s.attention := rfl
@[simp] theorem putBus_pending (s : State) (f : Segment) (b : Bus) : (s.putBus f b).pending = s.pending := rfl

/-! ### updStop -/

@[simp] theorem updStop_sets (s : State) (g : StopRec → StopRec) : (s.updStop g).sets = s.sets := rfl
@[simp] theorem updStop_bonds (s : State) (g : StopRec → StopRec) : (s.updStop g).bonds = s.bonds := rfl
@[simp] theorem updStop_driftTolerance (s : State) (g : StopRec → StopRec) : (s.updStop g).driftTolerance = s.driftTolerance := rfl
@[simp] theorem updStop_digest (s : State) (g : StopRec → StopRec) : (s.updStop g).digest = s.digest := rfl
@[simp] theorem updStop_claims (s : State) (g : StopRec → StopRec) : (s.updStop g).claims = s.claims := rfl
@[simp] theorem updStop_keepouts (s : State) (g : StopRec → StopRec) : (s.updStop g).keepouts = s.keepouts := rfl
@[simp] theorem updStop_clearance (s : State) (g : StopRec → StopRec) : (s.updStop g).clearance = s.clearance := rfl
@[simp] theorem updStop_nearFull (s : State) (g : StopRec → StopRec) : (s.updStop g).nearFull = s.nearFull := rfl
@[simp] theorem updStop_pointer (s : State) (g : StopRec → StopRec) : (s.updStop g).pointer = s.pointer := rfl
@[simp] theorem updStop_served (s : State) (g : StopRec → StopRec) : (s.updStop g).served = s.served := rfl
@[simp] theorem updStop_weights (s : State) (g : StopRec → StopRec) : (s.updStop g).weights = s.weights := rfl
@[simp] theorem updStop_groups (s : State) (g : StopRec → StopRec) : (s.updStop g).groups = s.groups := rfl
@[simp] theorem updStop_buses (s : State) (g : StopRec → StopRec) : (s.updStop g).buses = s.buses := rfl
@[simp] theorem updStop_stop (s : State) (g : StopRec → StopRec) : (s.updStop g).stop = g s.stop := rfl
@[simp] theorem updStop_links (s : State) (g : StopRec → StopRec) : (s.updStop g).links = s.links := rfl
@[simp] theorem updStop_attention (s : State) (g : StopRec → StopRec) : (s.updStop g).attention = s.attention := rfl
@[simp] theorem updStop_pending (s : State) (g : StopRec → StopRec) : (s.updStop g).pending = s.pending := rfl

/-! ### putLink -/

@[simp] theorem putLink_sets (s : State) (l : Link) (x : LinkRec) : (s.putLink l x).sets = s.sets := rfl
@[simp] theorem putLink_bonds (s : State) (l : Link) (x : LinkRec) : (s.putLink l x).bonds = s.bonds := rfl
@[simp] theorem putLink_driftTolerance (s : State) (l : Link) (x : LinkRec) : (s.putLink l x).driftTolerance = s.driftTolerance := rfl
@[simp] theorem putLink_digest (s : State) (l : Link) (x : LinkRec) : (s.putLink l x).digest = s.digest := rfl
@[simp] theorem putLink_claims (s : State) (l : Link) (x : LinkRec) : (s.putLink l x).claims = s.claims := rfl
@[simp] theorem putLink_keepouts (s : State) (l : Link) (x : LinkRec) : (s.putLink l x).keepouts = s.keepouts := rfl
@[simp] theorem putLink_clearance (s : State) (l : Link) (x : LinkRec) : (s.putLink l x).clearance = s.clearance := rfl
@[simp] theorem putLink_nearFull (s : State) (l : Link) (x : LinkRec) : (s.putLink l x).nearFull = s.nearFull := rfl
@[simp] theorem putLink_pointer (s : State) (l : Link) (x : LinkRec) : (s.putLink l x).pointer = s.pointer := rfl
@[simp] theorem putLink_served (s : State) (l : Link) (x : LinkRec) : (s.putLink l x).served = s.served := rfl
@[simp] theorem putLink_weights (s : State) (l : Link) (x : LinkRec) : (s.putLink l x).weights = s.weights := rfl
@[simp] theorem putLink_groups (s : State) (l : Link) (x : LinkRec) : (s.putLink l x).groups = s.groups := rfl
@[simp] theorem putLink_buses (s : State) (l : Link) (x : LinkRec) : (s.putLink l x).buses = s.buses := rfl
@[simp] theorem putLink_stop (s : State) (l : Link) (x : LinkRec) : (s.putLink l x).stop = s.stop := rfl
@[simp] theorem putLink_links (s : State) (l : Link) (x : LinkRec) : (s.putLink l x).links = s.links.put l x := rfl
@[simp] theorem putLink_attention (s : State) (l : Link) (x : LinkRec) : (s.putLink l x).attention = s.attention := rfl
@[simp] theorem putLink_pending (s : State) (l : Link) (x : LinkRec) : (s.putLink l x).pending = s.pending := rfl

/-! ### updAttention -/

@[simp] theorem updAttention_sets (s : State) (g : AttentionRec → AttentionRec) : (s.updAttention g).sets = s.sets := rfl
@[simp] theorem updAttention_bonds (s : State) (g : AttentionRec → AttentionRec) : (s.updAttention g).bonds = s.bonds := rfl
@[simp] theorem updAttention_driftTolerance (s : State) (g : AttentionRec → AttentionRec) : (s.updAttention g).driftTolerance = s.driftTolerance := rfl
@[simp] theorem updAttention_digest (s : State) (g : AttentionRec → AttentionRec) : (s.updAttention g).digest = s.digest := rfl
@[simp] theorem updAttention_claims (s : State) (g : AttentionRec → AttentionRec) : (s.updAttention g).claims = s.claims := rfl
@[simp] theorem updAttention_keepouts (s : State) (g : AttentionRec → AttentionRec) : (s.updAttention g).keepouts = s.keepouts := rfl
@[simp] theorem updAttention_clearance (s : State) (g : AttentionRec → AttentionRec) : (s.updAttention g).clearance = s.clearance := rfl
@[simp] theorem updAttention_nearFull (s : State) (g : AttentionRec → AttentionRec) : (s.updAttention g).nearFull = s.nearFull := rfl
@[simp] theorem updAttention_pointer (s : State) (g : AttentionRec → AttentionRec) : (s.updAttention g).pointer = s.pointer := rfl
@[simp] theorem updAttention_served (s : State) (g : AttentionRec → AttentionRec) : (s.updAttention g).served = s.served := rfl
@[simp] theorem updAttention_weights (s : State) (g : AttentionRec → AttentionRec) : (s.updAttention g).weights = s.weights := rfl
@[simp] theorem updAttention_groups (s : State) (g : AttentionRec → AttentionRec) : (s.updAttention g).groups = s.groups := rfl
@[simp] theorem updAttention_buses (s : State) (g : AttentionRec → AttentionRec) : (s.updAttention g).buses = s.buses := rfl
@[simp] theorem updAttention_stop (s : State) (g : AttentionRec → AttentionRec) : (s.updAttention g).stop = s.stop := rfl
@[simp] theorem updAttention_links (s : State) (g : AttentionRec → AttentionRec) : (s.updAttention g).links = s.links := rfl
@[simp] theorem updAttention_attention (s : State) (g : AttentionRec → AttentionRec) : (s.updAttention g).attention = g s.attention := rfl
@[simp] theorem updAttention_pending (s : State) (g : AttentionRec → AttentionRec) : (s.updAttention g).pending = s.pending := rfl

/-! ### latchTimes -/

@[simp] theorem latchTimes_sets (src : Source) (k : Nat) (s : State) : (latchTimes src k s).sets = s.sets := rfl
@[simp] theorem latchTimes_bonds (src : Source) (k : Nat) (s : State) : (latchTimes src k s).bonds = s.bonds := rfl
@[simp] theorem latchTimes_driftTolerance (src : Source) (k : Nat) (s : State) : (latchTimes src k s).driftTolerance = s.driftTolerance := rfl
@[simp] theorem latchTimes_digest (src : Source) (k : Nat) (s : State) : (latchTimes src k s).digest = s.digest := rfl
@[simp] theorem latchTimes_claims (src : Source) (k : Nat) (s : State) : (latchTimes src k s).claims = s.claims := rfl
@[simp] theorem latchTimes_keepouts (src : Source) (k : Nat) (s : State) : (latchTimes src k s).keepouts = s.keepouts := rfl
@[simp] theorem latchTimes_clearance (src : Source) (k : Nat) (s : State) : (latchTimes src k s).clearance = s.clearance := rfl
@[simp] theorem latchTimes_nearFull (src : Source) (k : Nat) (s : State) : (latchTimes src k s).nearFull = s.nearFull := rfl
@[simp] theorem latchTimes_pointer (src : Source) (k : Nat) (s : State) : (latchTimes src k s).pointer = s.pointer := rfl
@[simp] theorem latchTimes_served (src : Source) (k : Nat) (s : State) : (latchTimes src k s).served = s.served := rfl
@[simp] theorem latchTimes_weights (src : Source) (k : Nat) (s : State) : (latchTimes src k s).weights = s.weights := rfl
@[simp] theorem latchTimes_groups (src : Source) (k : Nat) (s : State) : (latchTimes src k s).groups = s.groups := rfl
@[simp] theorem latchTimes_buses (src : Source) (k : Nat) (s : State) : (latchTimes src k s).buses = s.buses := rfl
@[simp] theorem latchTimes_stop (src : Source) (k : Nat) (s : State) : (latchTimes src k s).stop = s.stop := rfl
@[simp] theorem latchTimes_links (src : Source) (k : Nat) (s : State) : (latchTimes src k s).links = s.links := rfl
@[simp] theorem latchTimes_attention (src : Source) (k : Nat) (s : State) : (latchTimes src k s).attention = s.attention.latchTimes src k := rfl
@[simp] theorem latchTimes_pending (src : Source) (k : Nat) (s : State) : (latchTimes src k s).pending = s.pending := rfl

/-! ### putFaultSummary -/

@[simp] theorem putFaultSummary_sets (s : State) (n : Nat) (x : FaultSummary) : (s.putFaultSummary n x).sets = s.sets := rfl
@[simp] theorem putFaultSummary_bonds (s : State) (n : Nat) (x : FaultSummary) : (s.putFaultSummary n x).bonds = s.bonds := rfl
@[simp] theorem putFaultSummary_driftTolerance (s : State) (n : Nat) (x : FaultSummary) : (s.putFaultSummary n x).driftTolerance = s.driftTolerance := rfl
@[simp] theorem putFaultSummary_digest (s : State) (n : Nat) (x : FaultSummary) : (s.putFaultSummary n x).digest = s.digest := rfl
@[simp] theorem putFaultSummary_claims (s : State) (n : Nat) (x : FaultSummary) : (s.putFaultSummary n x).claims = s.claims := rfl
@[simp] theorem putFaultSummary_keepouts (s : State) (n : Nat) (x : FaultSummary) : (s.putFaultSummary n x).keepouts = s.keepouts := rfl
@[simp] theorem putFaultSummary_clearance (s : State) (n : Nat) (x : FaultSummary) : (s.putFaultSummary n x).clearance = s.clearance := rfl
@[simp] theorem putFaultSummary_nearFull (s : State) (n : Nat) (x : FaultSummary) : (s.putFaultSummary n x).nearFull = s.nearFull := rfl
@[simp] theorem putFaultSummary_pointer (s : State) (n : Nat) (x : FaultSummary) : (s.putFaultSummary n x).pointer = s.pointer := rfl
@[simp] theorem putFaultSummary_served (s : State) (n : Nat) (x : FaultSummary) : (s.putFaultSummary n x).served = s.served := rfl
@[simp] theorem putFaultSummary_weights (s : State) (n : Nat) (x : FaultSummary) : (s.putFaultSummary n x).weights = s.weights := rfl
@[simp] theorem putFaultSummary_groups (s : State) (n : Nat) (x : FaultSummary) : (s.putFaultSummary n x).groups = s.groups := rfl
@[simp] theorem putFaultSummary_buses (s : State) (n : Nat) (x : FaultSummary) : (s.putFaultSummary n x).buses = s.buses := rfl
@[simp] theorem putFaultSummary_stop (s : State) (n : Nat) (x : FaultSummary) : (s.putFaultSummary n x).stop = s.stop := rfl
@[simp] theorem putFaultSummary_links (s : State) (n : Nat) (x : FaultSummary) : (s.putFaultSummary n x).links = s.links := rfl
@[simp] theorem putFaultSummary_attention (s : State) (n : Nat) (x : FaultSummary) : (s.putFaultSummary n x).attention = { s.attention with faults := Tab.put s.attention.faults n x } := rfl
@[simp] theorem putFaultSummary_pending (s : State) (n : Nat) (x : FaultSummary) : (s.putFaultSummary n x).pending = s.pending := rfl

/-! ### nextDesk -/

@[simp] theorem nextDesk_sets (s : State) : s.nextDesk.sets = s.sets := rfl
@[simp] theorem nextDesk_bonds (s : State) : s.nextDesk.bonds = s.bonds := rfl
@[simp] theorem nextDesk_driftTolerance (s : State) : s.nextDesk.driftTolerance = s.driftTolerance := rfl
@[simp] theorem nextDesk_digest (s : State) : s.nextDesk.digest = s.digest := rfl
@[simp] theorem nextDesk_claims (s : State) : s.nextDesk.claims = s.claims := rfl
@[simp] theorem nextDesk_keepouts (s : State) : s.nextDesk.keepouts = s.keepouts := rfl
@[simp] theorem nextDesk_clearance (s : State) : s.nextDesk.clearance = s.clearance := rfl
@[simp] theorem nextDesk_nearFull (s : State) : s.nextDesk.nearFull = s.nearFull := rfl
@[simp] theorem nextDesk_pointer (s : State) : s.nextDesk.pointer = s.pointer.next := rfl
@[simp] theorem nextDesk_served (s : State) : s.nextDesk.served = 0 := rfl
@[simp] theorem nextDesk_weights (s : State) : s.nextDesk.weights = s.weights := rfl
@[simp] theorem nextDesk_groups (s : State) : s.nextDesk.groups = s.groups := rfl
@[simp] theorem nextDesk_buses (s : State) : s.nextDesk.buses = s.buses := rfl
@[simp] theorem nextDesk_stop (s : State) : s.nextDesk.stop = s.stop := rfl
@[simp] theorem nextDesk_links (s : State) : s.nextDesk.links = s.links := rfl
@[simp] theorem nextDesk_attention (s : State) : s.nextDesk.attention = s.attention := rfl
@[simp] theorem nextDesk_pending (s : State) : s.nextDesk.pending = s.pending := rfl

/-! ### withPending -/

@[simp] theorem withPending_sets (s : State) (waiting : List Instr) : (s.withPending waiting).sets = s.sets := rfl
@[simp] theorem withPending_bonds (s : State) (waiting : List Instr) : (s.withPending waiting).bonds = s.bonds := rfl
@[simp] theorem withPending_driftTolerance (s : State) (waiting : List Instr) : (s.withPending waiting).driftTolerance = s.driftTolerance := rfl
@[simp] theorem withPending_digest (s : State) (waiting : List Instr) : (s.withPending waiting).digest = s.digest := rfl
@[simp] theorem withPending_claims (s : State) (waiting : List Instr) : (s.withPending waiting).claims = s.claims := rfl
@[simp] theorem withPending_keepouts (s : State) (waiting : List Instr) : (s.withPending waiting).keepouts = s.keepouts := rfl
@[simp] theorem withPending_clearance (s : State) (waiting : List Instr) : (s.withPending waiting).clearance = s.clearance := rfl
@[simp] theorem withPending_nearFull (s : State) (waiting : List Instr) : (s.withPending waiting).nearFull = s.nearFull := rfl
@[simp] theorem withPending_pointer (s : State) (waiting : List Instr) : (s.withPending waiting).pointer = s.pointer := rfl
@[simp] theorem withPending_served (s : State) (waiting : List Instr) : (s.withPending waiting).served = s.served := rfl
@[simp] theorem withPending_weights (s : State) (waiting : List Instr) : (s.withPending waiting).weights = s.weights := rfl
@[simp] theorem withPending_groups (s : State) (waiting : List Instr) : (s.withPending waiting).groups = s.groups := rfl
@[simp] theorem withPending_buses (s : State) (waiting : List Instr) : (s.withPending waiting).buses = s.buses := rfl
@[simp] theorem withPending_stop (s : State) (waiting : List Instr) : (s.withPending waiting).stop = s.stop := rfl
@[simp] theorem withPending_links (s : State) (waiting : List Instr) : (s.withPending waiting).links = s.links := rfl
@[simp] theorem withPending_attention (s : State) (waiting : List Instr) : (s.withPending waiting).attention = s.attention := rfl
@[simp] theorem withPending_pending (s : State) (waiting : List Instr) : (s.withPending waiting).pending = waiting := rfl

end Sys2Proof.Machine
end

