-- ==== Sys2Proof/Laws/Frames.lean ====
section
/-! SUPPORT. The frame of each shared operation: the fields of State it can change, said once as an equation, so that no proof unfolds it to see what it leaves alone. -/

namespace Sys2Proof.Machine

/-! ## Claims alone -/

theorem updClaim_frame (s : State) (n : Nat) (f : ClaimRec → ClaimRec) :
    s.updClaim n f = { s with claims := (s.updClaim n f).claims } := rfl

theorem holdWhere_frame (s : State) (p : ClaimRec → Bool) (add : Reasons → Reasons) :
    s.holdWhere p add = { s with claims := (s.holdWhere p add).claims } := rfl

theorem releaseEmptied_frame (s : State) : s.releaseEmptied = { s with claims := s.releaseEmptied.claims } := rfl

theorem regroup_frame (s : State) : s.regroup = { s with claims := s.regroup.claims } := rfl

theorem settle_frame (s : State) : s.settle = { s with claims := s.settle.claims } := rfl

theorem raiseColumn_frame (s : State) (m : Mover) : s.raiseColumn m = { s with claims := (s.raiseColumn m).claims } := by
  unfold State.raiseColumn
  split <;> rfl

theorem reevalColumns_frame (s : State) : s.reevalColumns = { s with claims := s.reevalColumns.claims } := rfl

/-- A fold of steps that change claims alone changes claims alone. -/
theorem foldl_claims_frame {α : Type} (g : State → α → State) (h : ∀ s a, g s a = { s with claims := (g s a).claims })
    (as : List α) (s : State) : as.foldl g s = { s with claims := (as.foldl g s).claims } := by
  induction as generalizing s with
  | nil => rfl
  | cons a as ih => rw [List.foldl_cons, ih, h]

theorem raiseNewColumns_frame (before : State) (ms : List Mover) (s : State) :
    raiseNewColumns before ms s = { s with claims := (raiseNewColumns before ms s).claims } := by
  refine foldl_claims_frame _ (fun t m => ?_) ms s
  split
  · rw [raiseColumn_frame]
  · rfl

theorem trustNotices_frame (before : State) (ms : List Mover) (s : State) :
    trustNotices before ms s = { s with claims := (trustNotices before ms s).claims } := by
  unfold trustNotices
  split
  · rw [reevalColumns_frame, raiseNewColumns_frame]
  · rw [regroup_frame, raiseNewColumns_frame]

theorem raiseMemberColumns_frame (s : State) (ns : List Nat) :
    s.raiseMemberColumns ns = { s with claims := (s.raiseMemberColumns ns).claims } := by
  refine foldl_claims_frame _ (fun t n => ?_) ns s
  split
  · rw [raiseColumn_frame]
  · rfl

/-! ## The Attention Unit alone -/

theorem latch_frame (src : Source) (s : State) : latch src s = { s with attention := (latch src s).attention } := rfl

theorem latchIf_frame (b : Bool) (src : Source) (s : State) :
    latchIf b src s = { s with attention := (latchIf b src s).attention } := by
  unfold latchIf
  split <;> rfl

theorem setNotices_frame (before s : State) : setNotices before s = { s with attention := (setNotices before s).attention } := by
  unfold setNotices
  rw [latchIf_frame]
  rfl

/-! ## Sets, bonds and claims -/

theorem updSets_frame (s : State) (ns : List Nat) (f : Nat → SetRec → SetRec) :
    s.updSets ns f = { s with sets := (s.updSets ns f).sets } := by
  unfold State.updSets
  induction ns generalizing s with
  | nil => rfl
  | cons n ns ih => rw [List.foldl_cons, ih]; rfl

theorem engage_frame (s : State) (m : Mover) : s.engage m = { s with sets := (s.engage m).sets } := updSets_frame _ _ _

theorem setClaimField_frame (s : State) (m : Mover) (x : Option Nat) :
    s.setClaimField m x = { s with sets := (s.setClaimField m x).sets, bonds := (s.setClaimField m x).bonds } := by
  unfold State.setClaimField
  cases m <;> simp only [] <;> rw [updSets_frame]

theorem removeWaiting_frame (s : State) (c : ClaimRec) :
    s.removeWaiting c =
      { s with
        claims := (s.removeWaiting c).claims, sets := (s.removeWaiting c).sets, bonds := (s.removeWaiting c).bonds } := by
  unfold State.removeWaiting
  rw [setClaimField_frame]
  rfl

theorem removeMembers_frame (s : State) (ns : List Nat) :
    s.removeMembers ns =
      { s with
        claims := (s.removeMembers ns).claims, sets := (s.removeMembers ns).sets, bonds := (s.removeMembers ns).bonds } := by
  unfold State.removeMembers
  induction ns generalizing s with
  | nil => rfl
  | cons n ns ih =>
    rw [List.foldl_cons, ih]
    split
    · rw [removeWaiting_frame]
    · rfl

theorem dissolveGroup_frame (s : State) (g : Nat) (x : GroupRec) :
    s.dissolveGroup g x =
      { s with
        claims := (s.dissolveGroup g x).claims, sets := (s.dissolveGroup g x).sets, bonds := (s.dissolveGroup g x).bonds
        groups := (s.dissolveGroup g x).groups } := by
  unfold State.dissolveGroup
  rw [removeMembers_frame]
  rfl

theorem groupDrop_frame (s : State) (c : ClaimRec) :
    s.groupDrop c =
      { s with
        claims := (s.groupDrop c).claims, sets := (s.groupDrop c).sets, bonds := (s.groupDrop c).bonds
        groups := (s.groupDrop c).groups, attention := (s.groupDrop c).attention } := by
  unfold State.groupDrop
  split
  · rfl
  · split
    · rfl
    · dsimp only
      split
      · rfl
      · split
        · rfl
        · rw [latch_frame, dissolveGroup_frame]
      · rfl

theorem removeLive_frame (s : State) (c : ClaimRec) (e : Ending) :
    s.removeLive c e =
      { s with
        claims := (s.removeLive c e).claims, sets := (s.removeLive c e).sets, bonds := (s.removeLive c e).bonds
        groups := (s.removeLive c e).groups, attention := (s.removeLive c e).attention } := by
  unfold State.removeLive
  rw [trustNotices_frame, groupDrop_frame, setNotices_frame, updSets_frame, setClaimField_frame]
  rfl

theorem faultClaim_frame (s : State) (c : ClaimRec) (k : FaultCause) :
    s.faultClaim c k = { s with claims := (s.faultClaim c k).claims, attention := (s.faultClaim c k).attention } := by
  unfold State.faultClaim
  split
  · simp only []
    rw [regroup_frame]
    split
    · rfl
    · rw [raiseColumn_frame]; rfl
  · rfl

/-! ## Grants -/

theorem grant_frame (s : State) (c : ClaimRec) (v : Nat) (p : Plan) :
    s.grant c v p = { s with claims := (s.grant c v p).claims, sets := (s.grant c v p).sets } := by
  unfold State.grant
  rw [engage_frame]
  rfl

theorem create_frame (s : State) (c : ClaimRec) :
    s.create c =
      { s with
        claims := (s.create c).claims, sets := (s.create c).sets, bonds := (s.create c).bonds
        attention := (s.create c).attention } := by
  unfold State.create
  simp only []
  rw [latchIf_frame, setClaimField_frame]

theorem grantAll_frame (v : ClaimRec → Nat) (ps : List (ClaimRec × Plan)) (s : State) :
    ps.foldl (fun t p => t.grant p.1 (v p.1) p.2) s =
      { s with
        claims := (ps.foldl (fun t p => t.grant p.1 (v p.1) p.2) s).claims
        sets := (ps.foldl (fun t p => t.grant p.1 (v p.1) p.2) s).sets } := by
  induction ps generalizing s with
  | nil => rfl
  | cons p ps ih => rw [List.foldl_cons, ih, grant_frame]

theorem grantGroup_frame (s : State) (g : Nat) (x : GroupRec) (ps : List (ClaimRec × Plan)) :
    s.grantGroup g x ps =
      { s with
        claims := (s.grantGroup g x ps).claims, sets := (s.grantGroup g x ps).sets, groups := (s.grantGroup g x ps).groups } := by
  unfold State.grantGroup
  simp only []
  rw [grantAll_frame]
  rfl

/-! ## Passes -/

/-- What a pass can change: claims, sets, groups, the pointer and the served count. -/
def PassFrame (s t : State) : Prop :=
  t = { s with claims := t.claims, sets := t.sets, groups := t.groups, pointer := t.pointer, served := t.served }

theorem PassFrame.rfl' (s : State) : PassFrame s s := rfl

theorem PassFrame.trans' {s t u : State} (h : PassFrame s t) (k : PassFrame t u) : PassFrame s u := by
  unfold PassFrame at *
  rw [k, h]

theorem examine_frame (s t : State) (e : Entry) (h : s.examine e = some t) : PassFrame s t := by
  unfold State.examine at h
  split at h <;> split at h
  · rw [Option.map_eq_some_iff] at h
    obtain ⟨p, -, rfl⟩ := h
    unfold PassFrame
    rw [grant_frame]
  · cases h
  · rw [Option.map_eq_some_iff] at h
    obtain ⟨p, -, rfl⟩ := h
    unfold PassFrame
    rw [grantGroup_frame]
  · cases h

theorem examineAll_frame (w : Nat) (es : List Entry) (s : State) (b : Bool) : PassFrame s (examineAll w es s b).1 := by
  induction es generalizing s b with
  | nil => rfl
  | cons e es ih =>
    unfold examineAll
    split
    · exact ih _ _
    · rename_i t h
      have k := examine_frame s t e h
      split
      · exact k.trans' rfl
      · exact (k.trans' (show PassFrame t { t with served := t.served + 1 } from rfl)).trans' (ih _ _)

theorem turn_frame (s : State) : PassFrame s s.turn.1 := by
  unfold State.turn
  split
  · rfl
  · exact examineAll_frame _ _ _ _

theorem passTurns_frame (fuel empty : Nat) (s : State) : PassFrame s (passTurns fuel empty s) := by
  induction fuel generalizing empty s with
  | zero => rfl
  | succ k ih =>
    have h := turn_frame s
    have d : PassFrame s.turn.1 s.turn.1.nextDesk := rfl
    unfold passTurns
    simp only []
    split
    · split
      · exact h
      · exact (h.trans' d).trans' (ih _ _)
    · split
      · exact h.trans' d
      · exact (h.trans' d).trans' (ih _ _)

theorem pass_frame (s : State) : PassFrame s s.pass := by
  unfold State.pass
  split
  · rfl
  · split
    · rfl
    · simp only []
      split
      · exact (show PassFrame s s.nextDesk from rfl).trans' (passTurns_frame _ _ _)
      · exact passTurns_frame _ _ _

theorem passIf_frame (b : Bool) (s : State) : PassFrame s (passIf b s) := by
  unfold passIf
  split
  · exact pass_frame s
  · rfl

/-! ## The Set Registry and the controllers -/

theorem redigest_frame (s : State) :
    s.redigest = { s with digest := s.redigest.digest, attention := s.redigest.attention } := by
  unfold State.redigest
  rw [latchIf_frame]

theorem enterPolling_frame (s : State) (f : Segment) : s.enterPolling f = { s with buses := (s.enterPolling f).buses } := rfl

theorem enterIdle_frame (s : State) (f : Segment) : s.enterIdle f = { s with buses := (s.enterIdle f).buses } := rfl

theorem stationJoins_frame (s : State) (f : Segment) (a n : Nat) :
    s.stationJoins f a n = { s with buses := (s.stationJoins f a n).buses } := by
  unfold State.stationJoins
  simp only []
  split <;> rfl

theorem stationLeaves_frame (s : State) (f : Segment) (a : Nat) :
    s.stationLeaves f a = { s with buses := (s.stationLeaves f a).buses } := by
  unfold State.stationLeaves
  simp only []
  split <;> rfl

theorem clearSegment_frame (s : State) (f : Segment) : s.clearSegment f = { s with buses := (s.clearSegment f).buses } := rfl

/-! ## Links -/

theorem enqueue_frame (s : State) (l : Link) (x : Response) : s.enqueue l x = { s with links := (s.enqueue l x).links } := rfl

theorem answerPriority_frame (s : State) (l : Link) (x : Response) :
    s.answerPriority l x = { s with links := (s.answerPriority l x).links } := rfl

/-! ## The fresh flag at the Travel Monitor -/

/-- When a report is taken fresh (R122, R124): the station's fresh flag is set, or it was held until a clearing whose notice still
waits. -/
theorem takesFresh_iff (b : Bus) (n a : Nat) :
    b.takesFresh n a = true ↔
      (b.station a).fresh = true ∨ ∃ y ∈ b.freshNotices, y.set = n ∧ y.address = a ∧ y.held = true := by
  simp only [Bus.takesFresh, Bool.or_eq_true, List.any_eq_true, Bool.and_eq_true, decide_eq_true_eq]
  constructor
  · rintro (h | ⟨y, hy, ⟨h1, h2⟩, h3⟩)
    · exact Or.inl h
    · exact Or.inr ⟨y, hy, h2, h3, h1⟩
  · rintro (h | ⟨y, hy, h2, h3, h1⟩)
    · exact Or.inl h
    · exact Or.inr ⟨y, hy, ⟨h1, h2⟩, h3⟩

/-- With no notice waiting, a report is taken fresh while the station's fresh flag is set (R122). -/
theorem takesFresh_of_noNotices (b : Bus) (n a : Nat) (h : b.freshNotices = []) : b.takesFresh n a = (b.station a).fresh := by
  simp [Bus.takesFresh, h]

end Sys2Proof.Machine
end

