-- ==== Sys2Proof/Laws/Claims.lean ====
section
/-! SUPPORT. What the re-evaluation of holds does to a claim, said once: the fields it keeps, when it leaves a claim alone, and when a claim leaves HELD. -/

namespace Sys2Proof.Machine

/-! ## The claim table mapped -/

theorem claim?_mapClaims (s : State) (f : ClaimRec → ClaimRec) (hf : ∀ c, (f c).number = c.number) (n : Nat) :
    (s.mapClaims f).claim? n = (s.claim? n).map f := by
  unfold State.claim? State.mapClaims
  simp only [List.find?_map]
  congr 1
  congr 1
  funext c
  simp [hf]

theorem numbers_mapClaims (s : State) (f : ClaimRec → ClaimRec) (hf : ∀ c, (f c).number = c.number) :
    (s.mapClaims f).claims.map ClaimRec.number = s.claims.map ClaimRec.number := by
  simp [State.mapClaims, Function.comp_def, hf]

theorem mapClaims_mapClaims (s : State) (f g : ClaimRec → ClaimRec) : (s.mapClaims f).mapClaims g = s.mapClaims (g ∘ f) := by
  simp [State.mapClaims]

theorem mem_of_claim? {s : State} {n : Nat} {c : ClaimRec} (h : s.claim? n = some c) : c ∈ s.claims ∧ c.number = n :=
  ⟨List.mem_of_find?_eq_some h, by simpa using List.find?_some h⟩

/-- With distinct numbers every claim is found by its number. -/
theorem claim?_of_mem {s : State} (h : (s.claims.map ClaimRec.number).Nodup) {c : ClaimRec} (hc : c ∈ s.claims) :
    s.claim? c.number = some c := by
  unfold State.claim?
  generalize s.claims = cs at h hc
  induction cs with
  | nil => cases hc
  | cons d ds ih =>
    simp only [List.map_cons, List.nodup_cons] at h
    rcases List.mem_cons.1 hc with rfl | hc
    · simp
    · have : d.number ≠ c.number := fun e => h.1 (e ▸ List.mem_map_of_mem hc)
      simp [this, ih h.2 hc]

/-! ## One claim re-evaluated -/

/-- A reason other than COLUMN and GROUP is present: no re-evaluation removes it. -/
def Reasons.firm (r : Reasons) : Bool := decide ({ r with column := false, group := false } ≠ Reasons.empty)

/-- What a re-evaluation of COLUMN and GROUP holds can do to a claim. -/
structure Reheld (c d : ClaimRec) : Prop where
  same : d = { c with state := d.state, reasons := d.reasons, sup := d.sup }
  idle : c.holdable = false → d = c
  holdable : c.holdable = true → d.holdable = true
  firm : { d.reasons with column := false, group := false } = { c.reasons with column := false, group := false }
  held : c.state = .held → c.reasons.firm = true → d.state = .held
  untaken : d.state = .moving → c.state = .moving ∨ c.taken = true
  reasoned : d.state = .held → c.state = .held ∧ d.reasons = c.reasons ∨ d.reasons ≠ Reasons.empty
  left : c.state = .held → d.state ≠ .held → d.reasons = Reasons.empty
  clear : c.state ≠ .held → d.state ≠ .held → d.reasons = Reasons.empty ∨ d.reasons = c.reasons

theorem Reheld.refl (c : ClaimRec) : Reheld c c where
  same := rfl
  idle _ := rfl
  holdable := id
  firm := rfl
  held h _ := h
  untaken h := .inl h
  reasoned h := .inl ⟨h, rfl⟩
  left h k := absurd h k
  clear _ _ := .inr rfl

theorem Reheld.taken {c d : ClaimRec} (h : Reheld c d) : d.taken = c.taken := by rw [h.same]
theorem Reheld.number {c d : ClaimRec} (h : Reheld c d) : d.number = c.number := by rw [h.same]
theorem Reheld.span {c d : ClaimRec} (h : Reheld c d) : d.span = c.span := by rw [h.same]
theorem Reheld.mover {c d : ClaimRec} (h : Reheld c d) : d.mover = c.mover := by rw [h.same]
theorem Reheld.group {c d : ClaimRec} (h : Reheld c d) : d.group = c.group := by rw [h.same]

theorem Reheld.isFirm {c d : ClaimRec} (h : Reheld c d) : d.reasons.firm = c.reasons.firm := by
  unfold Reasons.firm
  rw [h.firm]

theorem ne_empty_of_firm {r : Reasons} (h : r.firm = true) : r ≠ Reasons.empty := by
  rintro rfl
  exact absurd h (by decide)

theorem Reheld.trans {c d e : ClaimRec} (h : Reheld c d) (k : Reheld d e) : Reheld c e where
  same := by
    have := k.same
    rw [h.same] at this
    exact this
  idle i := by
    have := h.idle i
    subst this
    exact k.idle i
  holdable i := k.holdable (h.holdable i)
  firm := k.firm.trans h.firm
  held i j := k.held (h.held i j) (by rw [h.isFirm]; exact j)
  untaken i := by
    rcases k.untaken i with j | j
    · exact h.untaken j
    · exact .inr (h.taken ▸ j)
  reasoned i := by
    rcases k.reasoned i with ⟨j, l⟩ | j
    · rcases h.reasoned j with ⟨m, n⟩ | m
      · exact .inl ⟨m, l.trans n⟩
      · exact .inr (l ▸ m)
    · exact .inr j
  left i j := by
    by_cases l : d.state = .held
    · exact k.left l j
    · have m := h.left i l
      rcases k.clear l j with n | n
      · exact n
      · exact n.trans m
  clear i j := by
    by_cases l : d.state = .held
    · exact .inl (k.left l j)
    · rcases k.clear l j with n | n
      · exact .inl n
      · rcases h.clear i l with m | m
        · exact .inl (n.trans m)
        · exact .inr (n.trans m)

/-- A table re-evaluated is the old one with each claim re-evaluated. -/
def ClaimsReheld (s t : State) : Prop := ∃ f, t = s.mapClaims f ∧ ∀ c, Reheld c (f c)

theorem ClaimsReheld.refl (s : State) : ClaimsReheld s s := ⟨id, by simp [State.mapClaims], Reheld.refl⟩

theorem ClaimsReheld.trans {s t u : State} (h : ClaimsReheld s t) (k : ClaimsReheld t u) : ClaimsReheld s u := by
  obtain ⟨f, rfl, hf⟩ := h
  obtain ⟨g, rfl, hg⟩ := k
  exact ⟨g ∘ f, mapClaims_mapClaims _ _ _, fun c => (hf c).trans (hg _)⟩

theorem holdable_iff (c : ClaimRec) : c.holdable = true ↔ c.state = .granted ∨ c.state = .moving ∨ c.state = .held := by
  simp [ClaimRec.holdable, ClaimRec.running, or_assoc]

theorem running_iff (c : ClaimRec) : c.running = true ↔ c.state = .granted ∨ c.state = .moving := by simp [ClaimRec.running]

theorem exitHeld_reheld (s : State) (c : ClaimRec) (h : c.state = .held) (e : c.reasons = Reasons.empty) :
    Reheld c (s.exitHeld c) := by
  unfold State.exitHeld
  split
  · rename_i m
    refine ⟨rfl, fun i => ?_, fun _ => by simp [holdable_iff, h], rfl, fun _ _ => h, fun i => by simp [h] at i, fun _ => .inr ?_,
      fun _ j => absurd h j, fun i => absurd h i⟩
    · simp [ClaimRec.holdable, h] at i
    · intro k
      simp only [Reasons.empty, Reasons.mk.injEq] at k
      simp [k] at m
  · split
    · rename_i t
      refine ⟨rfl, fun i => ?_, fun _ => by simp [holdable_iff], rfl, fun _ f => ?_, fun _ => .inr t, fun i => by simp at i,
        fun _ _ => e, fun i => absurd h i⟩
      · simp [ClaimRec.holdable, h] at i
      · exact absurd e (ne_empty_of_firm f)
    · refine ⟨rfl, fun i => ?_, fun _ => by simp [holdable_iff], rfl, fun _ f => ?_, fun i => by simp at i, fun i => by simp at i,
        fun _ _ => e, fun i => absurd h i⟩
      · simp [ClaimRec.holdable, h] at i
      · exact absurd e (ne_empty_of_firm f)

theorem isEmpty_iff (r : Reasons) : r.isEmpty = true ↔ r = Reasons.empty := by simp [Reasons.isEmpty]

/-- The claim that step 2 of R152 makes of a claim. -/
def State.releaseOne (s : State) (c : ClaimRec) : ClaimRec := if c.state = .held ∧ c.reasons.isEmpty then s.exitHeld c else c

theorem releaseEmptied_eq (s : State) : s.releaseEmptied = s.mapClaims s.releaseOne := rfl

theorem releaseOne_reheld (s : State) (c : ClaimRec) : Reheld c (s.releaseOne c) := by
  unfold State.releaseOne
  split
  · rename_i h
    exact exitHeld_reheld s c h.1 ((isEmpty_iff _).1 h.2)
  · exact Reheld.refl c

theorem releaseEmptied_reheld (s : State) : ClaimsReheld s s.releaseEmptied := ⟨_, rfl, releaseOne_reheld s⟩

/-- A claim that stays HELD at its test carries a reason. -/
theorem exitHeld_reasoned (s : State) (c : ClaimRec) (i : (s.exitHeld c).state = .held) :
    (s.exitHeld c).reasons ≠ Reasons.empty := by
  unfold State.exitHeld at i ⊢
  split
  · rename_i m
    intro k
    simp only [Reasons.empty, Reasons.mk.injEq] at k
    simp [k] at m
  · rename_i m
    rw [if_neg m] at i
    split at i <;> simp at i

/-- A HELD claim that loses COLUMN or GROUP and is then tested for leaving HELD. -/
theorem releaseOne_lost_reheld (s : State) (c : ClaimRec) (r : Reasons) (h : c.state = .held)
    (hr : { r with column := false, group := false } = { c.reasons with column := false, group := false }) :
    Reheld c (s.releaseOne { c with reasons := r }) := by
  by_cases e : r = Reasons.empty
  · subst e
    have x := exitHeld_reheld s { c with reasons := Reasons.empty } h rfl
    have y : s.releaseOne { c with reasons := Reasons.empty } = s.exitHeld { c with reasons := Reasons.empty } := by
      simp [State.releaseOne, h, isEmpty_iff]
    have nf : c.reasons.firm = false := by
      unfold Reasons.firm
      rw [← hr]
      decide
    rw [y]
    refine ⟨x.same, fun i => ?_, fun _ => x.holdable (by simp [holdable_iff, h]), x.firm.trans hr, fun _ f => ?_, x.untaken, fun i => ?_,
      fun _ j => x.left h j, fun i => absurd h i⟩
    · simp [ClaimRec.holdable, h] at i
    · simp [nf] at f
    · exact .inr (exitHeld_reasoned s _ i)
  · have y : s.releaseOne { c with reasons := r } = { c with reasons := r } := by
      simp [State.releaseOne, isEmpty_iff, e]
    rw [y]
    refine ⟨rfl, fun i => ?_, fun _ => by simp [holdable_iff, h], hr, fun _ _ => h, fun i => by simp [h] at i, fun _ => .inr e,
      fun _ j => absurd h j, fun i => absurd h i⟩
    simp [ClaimRec.holdable, h] at i

theorem dropGroup_releaseOne_reheld (s s' : State) (c : ClaimRec) : Reheld c (s'.releaseOne (s.dropGroup c)) := by
  unfold State.dropGroup
  split
  · rename_i h
    exact releaseOne_lost_reheld s' c _ h.1 rfl
  · exact releaseOne_reheld s' c

theorem dropColumn_releaseOne_reheld (s s' : State) (c : ClaimRec) : Reheld c (s'.releaseOne (s.dropColumn c)) := by
  unfold State.dropColumn
  split
  · rename_i h
    exact releaseOne_lost_reheld s' c _ h.1 rfl
  · exact releaseOne_reheld s' c

theorem takeGroup_reheld (s : State) (c : ClaimRec) : Reheld c (s.takeGroup c) := by
  unfold State.takeGroup
  split
  · rename_i h
    simp only [Bool.and_eq_true] at h
    have hn : c.state ≠ .held := by
      rcases (running_iff c).1 h.1 with k | k <;> simp [k]
    unfold ClaimRec.hold
    rw [if_pos h.1]
    refine ⟨rfl, fun i => ?_, fun _ => by simp [holdable_iff], rfl, fun i => absurd i hn, fun i => by simp at i, fun _ => .inr ?_,
      fun i => absurd i hn, fun _ i => absurd rfl i⟩
    · simp [ClaimRec.holdable, h.1] at i
    · simp [Reasons.addGroup, Reasons.empty]
  · exact Reheld.refl c

/-- Another claim is a partner only within a group. -/
theorem partnerStopping_of_alone (s : State) (c : ClaimRec) (h : c.group = none) : s.partnerStopping c = false := by
  simp [State.partnerStopping, ClaimRec.partner, h]

/-- The group re-evaluation of R90: each claim re-evaluated; a claim of no group that carries no GROUP, and that is not HELD without a
reason, is left alone. -/
theorem regroup_spec (s : State) : ∃ f, s.regroup = s.mapClaims f ∧ (∀ c, Reheld c (f c)) ∧
    ∀ c, c.group = none → c.reasons.group = false → (c.state = .held → c.reasons ≠ Reasons.empty) → f c = c := by
  unfold State.regroup
  simp only [releaseEmptied_eq, mapClaims_mapClaims]
  refine ⟨_, rfl, fun c => (dropGroup_releaseOne_reheld _ _ c).trans (takeGroup_reheld _ _), fun c g r e => ?_⟩
  have h1 : s.dropGroup c = c := by simp [State.dropGroup, r]
  have h2 : ∀ s' : State, s'.releaseOne c = c := fun s' => by
    by_cases h : c.state = .held
    · simp [State.releaseOne, isEmpty_iff, e h]
    · simp [State.releaseOne, h]
  simp only [Function.comp, h1, h2]
  unfold State.takeGroup
  rw [partnerStopping_of_alone _ c g]
  simp

theorem regroup_reheld (s : State) : ClaimsReheld s s.regroup := by
  obtain ⟨f, h, k, -⟩ := regroup_spec s
  exact ⟨f, h, k⟩

/-- Steps 2 and 3 of R152. -/
theorem settle_reheld (s : State) : ClaimsReheld s s.settle := (releaseEmptied_reheld s).trans (regroup_reheld _)

/-- The re-evaluation of COLUMN of R151. -/
theorem reevalColumns_reheld (s : State) : ClaimsReheld s s.reevalColumns := by
  unfold State.reevalColumns State.settle
  refine ClaimsReheld.trans ?_ (regroup_reheld _)
  simp only [releaseEmptied_eq, mapClaims_mapClaims]
  exact ⟨_, rfl, fun c => dropColumn_releaseOne_reheld _ _ c⟩

/-! ## Claims left alone -/

/-- A claim of no group that carries no GROUP, and that is not HELD without a reason, is left alone by the group
re-evaluation. -/
theorem regroup_alone (s : State) (c : ClaimRec) (hc : c ∈ s.claims) (g : c.group = none) (r : c.reasons.group = false)
    (e : c.state = .held → c.reasons ≠ Reasons.empty) : c ∈ s.regroup.claims := by
  obtain ⟨f, h, -, k⟩ := regroup_spec s
  rw [h]
  exact List.mem_map.2 ⟨c, hc, k c g r e⟩

/-! ## Columns under changes of the claim table -/

theorem claimOf_mapClaims (s : State) (f : ClaimRec → ClaimRec) (hf : ∀ c, (f c).mover = c.mover) (m : Mover) :
    (s.mapClaims f).claimOf m = (s.claimOf m).map f := by
  unfold State.claimOf State.mapClaims
  simp only [List.find?_map]
  congr 2
  funext c
  simp [hf]

/-- A change of claims that keeps movers and the claims that are FAULTED keeps which movers are untrusted. -/
theorem untrusted_mapClaims (s : State) (f : ClaimRec → ClaimRec) (hf : ∀ c, (f c).mover = c.mover)
    (hs : ∀ c, (f c).state = .faulted ↔ c.state = .faulted) (m : Mover) : (s.mapClaims f).untrusted m = s.untrusted m := by
  unfold State.untrusted
  rw [claimOf_mapClaims s f hf]
  congr 1
  cases s.claimOf m with
  | none => rfl
  | some c => simp [hs]

/-- Such a change keeps which spans meet a column. -/
theorem spanMeetsColumn_mapClaims (s : State) (f : ClaimRec → ClaimRec) (hf : ∀ c, (f c).mover = c.mover)
    (hs : ∀ c, (f c).state = .faulted ↔ c.state = .faulted) (c d : ClaimRec) (hm : d.mover = c.mover) (hp : d.span = c.span) :
    (s.mapClaims f).spanMeetsColumn d = s.spanMeetsColumn c := by
  unfold State.spanMeetsColumn
  rw [hp, hm]
  congr 1
  funext r
  unfold State.columnMet State.meetsColumnOf
  simp only [untrusted_mapClaims s f hf hs]
  rfl

/-- A HELD claim of no group whose reasons are empty, and whose span meets no column, leaves HELD when the claims are settled
(R38). -/
theorem settle_leaves (s : State) (c : ClaimRec) (n : Nat) (h : s.claim? n = some c) (hh : c.state = .held)
    (hr : c.reasons = Reasons.empty) (hg : c.group = none) (hc : s.spanMeetsColumn c = false) :
    ∃ d, s.settle.claim? n = some d ∧ d.state = (if c.taken then .moving else .granted) ∧ d.reasons = Reasons.empty ∧
      d.span = c.span := by
  obtain ⟨f, e, k, l⟩ := regroup_spec s.releaseEmptied
  have hp := partnerStopping_of_alone s c hg
  have x : s.releaseOne c = s.exitHeld c := by simp [State.releaseOne, hh, isEmpty_iff, hr]
  have y : s.exitHeld c = (if c.taken then { c with state := .moving, sup := c.sup.map fun x => x.onMoving c.memberTargets }
      else { c with state := .granted, sup := c.sup.map Supervision.onRegranted }) := by
    simp [State.exitHeld, hc, hp]
  refine ⟨s.exitHeld c, ?_, ?_, ?_, ?_⟩
  · unfold State.settle
    rw [e, claim?_mapClaims _ _ (fun c => (k c).number), releaseEmptied_eq,
      claim?_mapClaims _ _ (fun c => (releaseOne_reheld s c).number), h]
    simp only [Option.map_some, x]
    congr 1
    rw [y]
    split
    · exact l _ hg (by simp [hr, Reasons.empty]) (by simp)
    · exact l _ hg (by simp [hr, Reasons.empty]) (by simp)
  · rw [y]
    split <;> rfl
  · rw [y]
    split <;> exact hr
  · rw [y]
    split <;> rfl

end Sys2Proof.Machine
end

