-- ==== Sys2Proof/Laws/Lines.lean ====
section
/-! SUPPORT. What the line views show: DE is released and TXD marking wherever nothing is driven, and a desk character gives its byte back. -/

namespace Sys2Proof.Machine

/-! ## The fly bus -/

/-- Outside POLLING nothing is driven. -/
theorem driven_of_state (b : Bus) (h : b.state ≠ .polling) : b.driven = [] := by
  unfold Bus.driven
  split
  · contradiction
  · rfl
  · rfl
  · rfl

/-- With no poll in progress nothing is driven. -/
theorem driven_of_poll (b : Bus) (h : b.poll = none) : b.driven = [] := by
  unfold Bus.driven
  split
  · rw [h]; rfl
  · rfl
  · rfl
  · rfl

/-- In POLLING the characters of the poll in progress are driven. -/
theorem driven_polling (b : Bus) (p : Poll) (h : b.state = .polling) (hp : b.poll = some p) : b.driven = p.sent := by
  unfold Bus.driven
  rw [h, hp]
  rfl

/-- Where nothing is driven, DE is released. -/
theorem de_released (b : Bus) (k : Nat) (h : b.driven = []) : b.de k = false := by simp [Bus.de, h]

/-- Where nothing is driven, TXD is marking. -/
theorem txd_marking (b : Bus) (k : Nat) (h : b.driven = []) : b.txd k = true := by simp [Bus.txd, h]

/-- Beyond the last character driven, TXD is marking. -/
theorem txd_beyond (b : Bus) (k : Nat) (h : 11 * b.driven.length ≤ k) : b.txd k = true := by
  have : b.driven[k / 11]? = none := List.getElem?_eq_none (by omega)
  simp [Bus.txd, this]

/-- Bit `j` of character `i` driven stands on TXD at bit time `11 i + j`. -/
theorem txd_bit (b : Bus) (i j : Nat) (c : LineChar) (h : b.driven[i]? = some c) (hj : j < 11) :
    b.txd (11 * i + j) = c.getLsbD j := by
  have h1 : (11 * i + j) / 11 = i := by omega
  have h2 : (11 * i + j) % 11 = j := by omega
  simp [Bus.txd, h1, h2, h]

/-! ## The desk links -/

/-- A desk character gives its byte back. -/
@[simp] theorem byte_deskChar (b : Byte) : (deskChar b).byte = b := by
  unfold DeskChar.byte deskChar
  apply BitVec.eq_of_getLsbD_eq
  intro i hi
  simp only [BitVec.getLsbD_extractLsb', BitVec.getLsbD_append]
  have : ¬ (1 + i < 1) := by omega
  simp [hi, this]

/-- A desk character that is sent has no framing error. -/
@[simp] theorem framingError_deskChar (b : Byte) : (deskChar b).framingError = false := by
  unfold DeskChar.framingError deskChar
  rw [BitVec.getLsbD_append, BitVec.getLsbD_append]
  rfl

/-- DLn_TXD is marking while no frame is being sent. -/
theorem txd_idle (x : LinkRec) (k : Nat) (h : x.sending = none) : x.txd k = true := by
  simp [LinkRec.txd, LinkRec.sentChars, h]

/-- A frame received as it was sent spells its bytes, without a framing error. -/
theorem deskFrameRows_sent (l : Link) (b : Byte) (bs : List Byte) :
    deskFrameRows l ((b :: bs).map deskChar) = [.deskFrameBegin l b, .deskFrameEnd l bs false] := by
  have h : (bs.map deskChar).map DeskChar.byte = bs := by
    rw [List.map_map]
    conv_rhs => rw [← List.map_id bs]
    exact List.map_congr_left fun x _ => byte_deskChar x
  have e : (bs.map deskChar).any DeskChar.framingError = false := by
    rw [List.any_map, List.any_eq_false]
    intro x _
    simp
  simp only [List.map_cons, deskFrameRows, byte_deskChar, List.any_cons, framingError_deskChar, Bool.false_or, e]
  rw [h]

end Sys2Proof.Machine
end

