-- ==== Sys2Proof/Laws/Tables.lean ====
section
/-! SUPPORT. Reading a numbered table after a write: records, stations, links, segments, set records, bonds, groups and fault summaries. -/

namespace Sys2Proof

theorem Tab.get?_put {α : Type} {k : Nat} (t : Vector α k) (n m : Nat) (x : α) :
    Tab.get? (Tab.put t n x) m = if m = n ∧ 1 ≤ n ∧ n ≤ k then some x else Tab.get? t m := by
  unfold Tab.get? Tab.put
  by_cases hn : n = 0
  · subst hn
    simp
  · by_cases hm : m = 0
    · subst hm
      have : ¬ (0 = n ∧ 1 ≤ n ∧ n ≤ k) := by omega
      simp [this]
    · simp only [if_neg hn, if_neg hm, Vector.getElem?_setIfInBounds]
      by_cases e : m = n
      · subst e
        by_cases l : m ≤ k
        · have : m - 1 < k := by omega
          simp [this, l]
          omega
        · have h1 : ¬ (m - 1 < k) := by omega
          simp [h1, l]
      · have : n - 1 ≠ m - 1 := by omega
        simp [this, e]

theorem Tab.get?_map {α β : Type} {k : Nat} (t : Vector α k) (f : α → β) (n : Nat) :
    Tab.get? (t.map f) n = (Tab.get? t n).map f := by
  unfold Tab.get?
  split
  · rfl
  · simp

theorem Tab.get?_isSome {α : Type} {k : Nat} (t : Vector α k) (n : Nat) : (Tab.get? t n).isSome = decide (1 ≤ n ∧ n ≤ k) := by
  unfold Tab.get?
  split
  · rename_i h
    simp [h]
  · rename_i h
    by_cases l : n ≤ k
    · have : n - 1 < k := by omega
      have h1 : 1 ≤ n := by omega
      simp [this, l, h1]
    · have : ¬ (n - 1 < k) := by omega
      simp [this, l]

theorem Tab.record?_put {α : Type} {k : Nat} (t : Vector (Option α) k) (n m : Nat) (x : Option α) :
    Tab.record? (Tab.put t n x) m = if m = n ∧ 1 ≤ n ∧ n ≤ k then x else Tab.record? t m := by
  unfold Tab.record?
  rw [Tab.get?_put]
  split <;> simp

theorem Tab.record?_map {α β : Type} {k : Nat} (t : Vector (Option α) k) (f : α → β) (n : Nat) :
    Tab.record? (t.map (Option.map f)) n = (Tab.record? t n).map f := by
  unfold Tab.record?
  rw [Tab.get?_map]
  cases Tab.get? t n <;> rfl

/-- A record in use lies in its table. -/
theorem Tab.record?_range {α : Type} {k : Nat} {t : Vector (Option α) k} {n : Nat} {x : α} (h : Tab.record? t n = some x) :
    1 ≤ n ∧ n ≤ k := by
  have := Tab.get?_isSome t n
  unfold Tab.record? at h
  cases e : Tab.get? t n with
  | none => simp [e] at h
  | some y =>
    rw [e] at this
    simpa using this.symm

theorem Tab.mem_numbers (k n : Nat) : n ∈ Tab.numbers k ↔ 1 ≤ n ∧ n ≤ k := by
  unfold Tab.numbers
  rw [List.mem_range'_1]
  omega

/-- The lowest free number (00_scope, Numbering). -/
theorem Tab.firstFree_eq_some {α : Type} {k : Nat} (t : Vector (Option α) k) (n : Nat) :
    Tab.firstFree t = some n ↔
      1 ≤ n ∧ n ≤ k ∧ Tab.record? t n = none ∧ ∀ m, 1 ≤ m → m < n → (Tab.record? t m).isSome = true := by
  have free : ∀ m, 1 ≤ m → m ≤ k → ((Tab.get? t m).any Option.isNone = true ↔ Tab.record? t m = none) := by
    intro m h1 h2
    have := Tab.get?_isSome t m
    unfold Tab.record?
    cases e : Tab.get? t m with
    | none => simp [e, h1, h2] at this
    | some y => cases y <;> simp
  unfold Tab.firstFree Tab.numbers
  rw [List.find?_range'_eq_some]
  constructor
  · rintro ⟨h1, h2, h3⟩
    rw [List.mem_range'_1] at h2
    refine ⟨by omega, by omega, (free n (by omega) (by omega)).1 h1, fun m hm1 hm2 => ?_⟩
    have := h3 m hm1 hm2
    cases e : Tab.record? t m with
    | none => rw [(free m hm1 (by omega)).2 e] at this; cases this
    | some y => rfl
  · rintro ⟨h1, h2, h3, h4⟩
    refine ⟨(free n h1 h2).2 h3, by rw [List.mem_range'_1]; omega, fun m hm1 hm2 => ?_⟩
    have := h4 m hm1 hm2
    cases e : (Tab.get? t m).any Option.isNone with
    | false => rfl
    | true => rw [(free m hm1 (by omega)).1 e] at this; cases this

theorem Tab.firstFree_eq_none {α : Type} {k : Nat} (t : Vector (Option α) k) :
    Tab.firstFree t = none ↔ ∀ n, 1 ≤ n → n ≤ k → (Tab.record? t n).isSome = true := by
  unfold Tab.firstFree
  rw [List.find?_eq_none]
  simp only [Tab.mem_numbers]
  refine ⟨fun h n h1 h2 => ?_, fun h n hn => ?_⟩
  · have a := h n ⟨h1, h2⟩
    have b := Tab.get?_isSome t n
    unfold Tab.record?
    cases e : Tab.get? t n with
    | none => simp [e, h1, h2] at b
    | some y => cases y <;> simp_all
  · have a := h n hn.1 hn.2
    unfold Tab.record? at a
    cases e : Tab.get? t n with
    | none => simp
    | some y => cases y <;> simp_all

@[simp] theorem PerLink.get_put_self {α : Type} (t : PerLink α) (l : Link) (x : α) : (t.put l x).get l = x := by cases l <;> rfl
theorem PerLink.get_put {α : Type} (t : PerLink α) (l k : Link) (x : α) :
    (t.put l x).get k = if k = l then x else t.get k := by cases l <;> cases k <;> rfl
@[simp] theorem PerLink.put_put {α : Type} (t : PerLink α) (l : Link) (x y : α) : (t.put l x).put l y = t.put l y := by
  cases l <;> rfl
@[simp] theorem PerLink.put_get {α : Type} (t : PerLink α) (l : Link) : t.put l (t.get l) = t := by cases l <;> rfl
@[simp] theorem PerSegment.get_put_self {α : Type} (t : PerSegment α) (f : Segment) (x : α) : (t.put f x).get f = x := by
  cases f <;> rfl
theorem PerSegment.get_put {α : Type} (t : PerSegment α) (f g : Segment) (x : α) :
    (t.put f x).get g = if g = f then x else t.get g := by cases f <;> cases g <;> rfl
@[simp] theorem PerSegment.put_put {α : Type} (t : PerSegment α) (f : Segment) (x y : α) : (t.put f x).put f y = t.put f y := by
  cases f <;> rfl
@[simp] theorem PerSegment.put_get {α : Type} (t : PerSegment α) (f : Segment) : t.put f (t.get f) = t := by cases f <;> rfl

namespace Machine

/-! ## Set records -/

theorem setRec_out (s : State) (n : Nat) (h : ¬ (1 ≤ n ∧ n ≤ 128)) : s.setRec n = SetRec.vacant := by
  have := Tab.get?_isSome s.sets n
  unfold State.setRec
  cases e : Tab.get? s.sets n with
  | none => rfl
  | some x => simp [e, h] at this

/-- What holds of the record of a set outside 1 to 128, and of sets 1 to 128, holds of every set. -/
theorem setRec_forall {P : Nat → SetRec → Prop} (s : State) (out : ∀ n, P n SetRec.vacant)
    (h : ∀ n ∈ Tab.numbers 128, P n (s.setRec n)) (n : Nat) : P n (s.setRec n) := by
  by_cases hn : 1 ≤ n ∧ n ≤ 128
  · exact h n ((Tab.mem_numbers 128 n).mpr hn)
  · rw [setRec_out s n hn]
    exact out n

/-- What holds of bonds 1 to 16 in use holds of every bond in use. -/
theorem bond?_forall {P : Nat → BondRec → Prop} (s : State) (h : ∀ b ∈ Tab.numbers 16, ∀ x ∈ s.bond? b, P b x) (b : Nat)
    (x : BondRec) (hx : s.bond? b = some x) : P b x :=
  h b ((Tab.mem_numbers 16 b).mpr (Tab.record?_range hx)) x hx

/-- What holds of groups 1 to 24 in use holds of every group in use. -/
theorem group?_forall {P : Nat → GroupRec → Prop} (s : State) (h : ∀ g ∈ Tab.numbers 24, ∀ x ∈ s.group? g, P g x) (g : Nat)
    (x : GroupRec) (hx : s.group? g = some x) : P g x :=
  h g ((Tab.mem_numbers 24 g).mpr (Tab.record?_range hx)) x hx

theorem setRec_updSet (s : State) (n k : Nat) (f : SetRec → SetRec) :
    (s.updSet n f).setRec k = if k = n ∧ 1 ≤ n ∧ n ≤ 128 then f (s.setRec n) else s.setRec k := by
  unfold State.setRec State.updSet
  simp only [Tab.get?_put]
  split <;> rfl

theorem bond?_updSet (s : State) (n b : Nat) (f : SetRec → SetRec) : (s.updSet n f).bond? b = s.bond? b := rfl

/-- Several set records changed by an update that repeating does not change. -/
theorem setRec_updSets (s : State) (ns : List Nat) (f : Nat → SetRec → SetRec) (hf : ∀ n r, f n (f n r) = f n r) (k : Nat) :
    (s.updSets ns f).setRec k = if k ∈ ns ∧ 1 ≤ k ∧ k ≤ 128 then f k (s.setRec k) else s.setRec k := by
  unfold State.updSets
  induction ns generalizing s with
  | nil => simp
  | cons n ns ih =>
    rw [List.foldl_cons, ih, setRec_updSet]
    by_cases e : k = n
    · subst e
      by_cases m : k ∈ ns <;> by_cases r : 1 ≤ k ∧ k ≤ 128 <;> simp [m, r, hf]
    · simp [e]

theorem setRec_setClaimField (s : State) (m : Mover) (x : Option Nat) (k : Nat) :
    (s.setClaimField m x).setRec k = if k ∈ s.members m ∧ 1 ≤ k ∧ k ≤ 128 then { s.setRec k with claim := x } else s.setRec k := by
  have := setRec_updSets s (s.members m) (fun _ r => { r with claim := x }) (fun _ _ => rfl) k
  unfold State.setClaimField
  cases m <;> exact this

theorem bonds_updSets (s : State) (ns : List Nat) (f : Nat → SetRec → SetRec) : (s.updSets ns f).bonds = s.bonds := by
  rw [updSets_frame]

theorem bond?_setClaimField (s : State) (m : Mover) (x : Option Nat) (b : Nat) :
    (s.setClaimField m x).bond? b = if m = .bond b then (s.bond? b).map (fun r => { r with claim := x }) else s.bond? b := by
  unfold State.setClaimField State.bond?
  cases m with
  | set n => simp [bonds_updSets]
  | bond a =>
    simp only [bonds_updSets, Tab.record?_put, Mover.bond.injEq]
    by_cases e : a = b
    · subst e
      rw [if_pos rfl]
      split
      · rfl
      · rename_i h
        cases r : Tab.record? s.bonds a with
        | none => simp
        | some y => exact absurd ⟨rfl, Tab.record?_range r⟩ h
    · simp [e, Ne.symm e]

theorem members_setClaimField (s : State) (m k : Mover) (x : Option Nat) : (s.setClaimField m x).members k = s.members k := by
  cases k with
  | set n => rfl
  | bond b =>
    simp only [State.members, bond?_setClaimField]
    split
    · cases s.bond? b <;> rfl
    · rfl

theorem setRec_engage (s : State) (m : Mover) (k : Nat) :
    (s.engage m).setRec k = if k ∈ s.members m ∧ 1 ≤ k ∧ k ≤ 128 then { s.setRec k with state := .engaged } else s.setRec k :=
  setRec_updSets s (s.members m) (fun _ r => { r with state := .engaged }) (fun _ _ => rfl) k

theorem members_engage (s : State) (m k : Mover) : (s.engage m).members k = s.members k := by
  unfold State.engage
  cases k with
  | set n => rfl
  | bond b => simp only [State.members, State.bond?, bonds_updSets]

/-! ## Groups, keep-outs, fault summaries -/

theorem group?_putGroup (s : State) (g k : Nat) (x : Option GroupRec) :
    (s.putGroup g x).group? k = if k = g ∧ 1 ≤ g ∧ g ≤ 24 then x else s.group? k := Tab.record?_put _ _ _ _

theorem faultSummary_putFaultSummary (s : State) (n k : Nat) (x : FaultSummary) :
    (s.putFaultSummary n x).faultSummary k = if k = n ∧ 1 ≤ n ∧ n ≤ 128 then x else s.faultSummary k := by
  unfold State.faultSummary State.putFaultSummary
  simp only [Tab.get?_put]
  split <;> rfl

/-! ## Stations -/

theorem station_putStation (b : Bus) (a k : Nat) (x : Station) :
    (b.putStation a x).station k = if k = a ∧ 1 ≤ a ∧ a ≤ 64 then x else b.station k := by
  unfold Bus.station Bus.putStation
  simp only [Tab.get?_put]
  split <;> rfl

theorem station_clearFresh (b : Bus) (a : Nat) : b.clearFresh.station a = { b.station a with missCount := 0, fresh := false } := by
  unfold Bus.station Bus.clearFresh
  simp only [Tab.get?_map]
  cases Tab.get? b.stations a <;> rfl

theorem bus_putBus (s : State) (f g : Segment) (b : Bus) : (s.putBus f b).bus g = if g = f then b else s.bus g :=
  PerSegment.get_put _ _ _ _

theorem bus_updBus (s : State) (f g : Segment) (h : Bus → Bus) : (s.updBus f h).bus g = if g = f then h (s.bus f) else s.bus g :=
  PerSegment.get_put _ _ _ _

@[simp] theorem link_updLink_self (s : State) (l : Link) (g : LinkRec → LinkRec) : (s.updLink l g).link l = g (s.link l) :=
  PerLink.get_put_self _ _ _

theorem link_updLink (s : State) (l k : Link) (g : LinkRec → LinkRec) :
    (s.updLink l g).link k = if k = l then g (s.link l) else s.link k := PerLink.get_put _ _ _ _

end Machine

end Sys2Proof
end

