-- ==== Sys2Proof/Laws/Passes.lean ====
section
/-! SUPPORT. What an arbiter pass can do: an induction over its grants, the fields of claims, sets and groups it keeps, and that it leaves every claim that does not wait alone. -/

namespace Sys2Proof.Machine

/-! ## Induction over a pass -/

/-- A property that a grant keeps, whatever the entry, and that does not read the pointer or the served count, is kept by a
pass. -/
theorem examineAll_keeps (P : State → Prop) (hptr : ∀ s p k, P s → P { s with pointer := p, served := k })
    (hex : ∀ s e t, P s → s.examine e = some t → P t) (w : Nat) (es : List Entry) (s : State) (b : Bool) (h : P s) :
    P (examineAll w es s b).1 := by
  induction es generalizing s b with
  | nil => exact h
  | cons e es ih =>
    unfold examineAll
    split
    · exact ih _ _ h
    · rename_i t ht
      have k := hex s e t h ht
      split
      · exact hptr t t.pointer _ k
      · exact ih _ _ (hptr t t.pointer _ k)

theorem turn_keeps (P : State → Prop) (hptr : ∀ s p k, P s → P { s with pointer := p, served := k })
    (hex : ∀ s e t, P s → s.examine e = some t → P t) (s : State) (h : P s) : P s.turn.1 := by
  unfold State.turn
  split
  · exact h
  · exact examineAll_keeps P hptr hex _ _ _ _ h

theorem passTurns_keeps (P : State → Prop) (hptr : ∀ s p k, P s → P { s with pointer := p, served := k })
    (turn : ∀ s, P s → P s.turn.1) (fuel empty : Nat) (s : State) (h : P s) : P (passTurns fuel empty s) := by
  induction fuel generalizing empty s with
  | zero => exact h
  | succ k ih =>
    have t := turn s h
    unfold passTurns
    simp only []
    split
    · split
      · exact t
      · exact ih _ _ (hptr _ _ _ t)
    · split
      · exact hptr _ _ _ t
      · exact ih _ _ (hptr _ _ _ t)

theorem pass_keeps_of_turn (P : State → Prop) (hptr : ∀ s p k, P s → P { s with pointer := p, served := k })
    (turn : ∀ s, P s → P s.turn.1) (s : State) (h : P s) : P s.pass := by
  unfold State.pass
  split
  · exact h
  · split
    · exact h
    · simp only []
      split
      · exact passTurns_keeps P hptr turn _ _ _ (hptr _ _ _ h)
      · exact passTurns_keeps P hptr turn _ _ _ h

theorem pass_keeps (P : State → Prop) (hptr : ∀ s p k, P s → P { s with pointer := p, served := k })
    (hex : ∀ s e t, P s → s.examine e = some t → P t) (s : State) (h : P s) : P s.pass :=
  pass_keeps_of_turn P hptr (fun s => turn_keeps P hptr hex s) s h

theorem passIf_keeps (P : State → Prop) (hptr : ∀ s p k, P s → P { s with pointer := p, served := k })
    (hex : ∀ s e t, P s → s.examine e = some t → P t) (b : Bool) (s : State) (h : P s) : P (passIf b s) := by
  unfold passIf
  split
  · exact pass_keeps P hptr hex s h
  · exact h

/-! ## One grant -/

/-- What a grant keeps of a claim record, and the states it can leave it in. -/
structure Regranted (c d : ClaimRec) : Prop where
  same : d = { c with
    state := d.state, starts := d.starts, memberTargets := d.memberTargets, grantedSpeed := d.grantedSpeed, span := d.span
    taken := d.taken, waitTimer := d.waitTimer, sup := d.sup }
  state : d = c ∨ d.state = .granted ∨ d.state = .standing

theorem Regranted.refl (c : ClaimRec) : Regranted c c := ⟨rfl, .inl rfl⟩

theorem Regranted.trans {c d e : ClaimRec} (h : Regranted c d) (k : Regranted d e) : Regranted c e where
  same := by
    have := k.same
    rw [h.same] at this
    exact this
  state := by
    rcases k.state with rfl | j
    · exact h.state
    · exact .inr j

theorem granted_regranted (c : ClaimRec) (v : Nat) (p : Plan) (x : Supervision) : Regranted c (c.granted v p x) := by
  refine ⟨rfl, .inr ?_⟩
  unfold ClaimRec.granted
  cases c.kind
  · exact .inl rfl
  · exact .inr rfl

/-- What grants can do to the tables: each claim record regranted, each set but for its state, which may become ENGAGED where it was
neither DARK nor VACANT, each group granted where it was READY. -/
structure Granting (s t : State) : Prop where
  frame : PassFrame s t
  claims : ∃ f, t.claims = s.claims.map f ∧ ∀ c, Regranted c (f c)
  sets : ∀ n, t.setRec n = s.setRec n ∨ (s.setRec n).setup.isSome = true ∧ (s.setRec n).state ≠ .dark ∧
    (s.setRec n).state ≠ .barred ∧ t.setRec n = { s.setRec n with state := .engaged }
  groups : ∀ g, t.group? g = s.group? g ∨
    ∃ x, s.group? g = some x ∧ t.group? g = some { x with state := .granted, timer := none }

theorem Granting.refl (s : State) : Granting s s :=
  ⟨rfl, ⟨id, by simp, Regranted.refl⟩, fun _ => .inl rfl, fun _ => .inl rfl⟩

theorem Granting.trans {s t u : State} (h : Granting s t) (k : Granting t u) : Granting s u where
  frame := h.frame.trans' k.frame
  claims := by
    obtain ⟨f, e1, hf⟩ := h.claims
    obtain ⟨g, e2, hg⟩ := k.claims
    exact ⟨g ∘ f, by rw [e2, e1, List.map_map], fun c => (hf c).trans (hg _)⟩
  sets n := by
    rcases h.sets n with e | ⟨a, b, b', c⟩
    · rw [← e]
      exact k.sets n
    · rcases k.sets n with d | ⟨a', b', b'', c'⟩
      · exact .inr ⟨a, b, ‹_›, d.trans c⟩
      · refine .inr ⟨a, b, ‹_›, ?_⟩
        rw [c', c]
  groups g := by
    rcases h.groups g with e | ⟨x, a, b⟩
    · rw [← e]
      exact k.groups g
    · rcases k.groups g with d | ⟨y, a', b'⟩
      · exact .inr ⟨x, a, d.trans b⟩
      · refine .inr ⟨x, a, ?_⟩
        rw [b] at a'
        rw [b', ← Option.some.inj a']

theorem grantConditions_members {s : State} {c : ClaimRec} (h : s.grantConditions c = true) {n : Nat} (hn : n ∈ s.members c.mover) :
    (s.setRec n).setup.isSome = true ∧ (s.setRec n).state ≠ .dark ∧ (s.setRec n).state ≠ .barred := by
  simp only [State.grantConditions, Bool.and_eq_true, Bool.not_eq_true'] at h
  obtain ⟨⟨⟨-, h1⟩, h2⟩, -⟩ := h
  have a := List.all_eq_true.1 h1 n hn
  simp only [State.untrusted, Bool.or_eq_false_iff, List.any_eq_false] at h2
  have b := h2.1 n hn
  refine ⟨?_, ?_, ?_⟩
  · cases e : (s.setRec n).setup with
    | none => simp [e] at a
    | some u => rfl
  · intro e
    simp [e] at b
  · intro e
    simp [e] at b

theorem grant_claims (s : State) (c : ClaimRec) (v : Nat) (p : Plan) :
    (s.grant c v p).claims =
      s.claims.map fun x => if x.number = c.number then x.granted v p (s.openSupervision c p.starts) else x := by
  unfold State.grant
  rw [engage_frame]
  rfl

theorem grant_setRec (s : State) (c : ClaimRec) (v : Nat) (p : Plan) (n : Nat) :
    (s.grant c v p).setRec n =
      if n ∈ s.members c.mover ∧ 1 ≤ n ∧ n ≤ 128 then { s.setRec n with state := .engaged } else s.setRec n := by
  unfold State.grant
  rw [setRec_engage]
  rfl

theorem grant_granting (s : State) (c : ClaimRec) (v : Nat) (p : Plan)
    (h : ∀ n ∈ s.members c.mover, (s.setRec n).setup.isSome = true ∧ (s.setRec n).state ≠ .dark ∧ (s.setRec n).state ≠ .barred) :
    Granting s (s.grant c v p) where
  frame := by
    unfold PassFrame
    rw [grant_frame]
  claims := by
    refine ⟨_, grant_claims s c v p, fun x => ?_⟩
    split
    · exact granted_regranted _ _ _ _
    · exact Regranted.refl _
  sets n := by
    rw [grant_setRec]
    split
    · rename_i k
      obtain ⟨a, b, d⟩ := h n k.1
      exact .inr ⟨a, b, d, rfl⟩
    · exact .inl rfl
  groups g := by
    rw [grant_frame]
    exact .inl rfl

theorem grantPlan_conditions {s : State} {c : ClaimRec} {v : Nat} {p : Plan} (h : s.grantPlan c v = some p) :
    s.grantConditions c = true ∧ s.planOf c v = some p ∧ s.fits [c.mover] p.span = true := by
  unfold State.grantPlan at h
  split at h
  · rw [Option.filter_eq_some_iff] at h
    exact ⟨‹_›, h.1, h.2⟩
  · cases h

/-- The members of a mover are the same after grants. -/
theorem Granting.members {s t : State} (h : Granting s t) (m : Mover) : t.members m = s.members m := by
  cases m with
  | set n => rfl
  | bond b =>
    have : t.bonds = s.bonds := by rw [h.frame]
    simp [State.members, State.bond?, this]

theorem planMembers_mem {s : State} {v : ClaimRec → Nat} {acc : List Region} {cs : List ClaimRec} {ps : List (ClaimRec × Plan)}
    (h : s.planMembers v acc cs = some ps) : ps.map Prod.fst = cs := by
  induction cs generalizing acc ps with
  | nil =>
    simp only [State.planMembers, Option.some.injEq] at h
    simp [← h]
  | cons c cs ih =>
    simp only [State.planMembers] at h
    split at h
    · cases h
    · split at h
      · rw [Option.map_eq_some_iff] at h
        obtain ⟨rest, h1, rfl⟩ := h
        simp [ih h1]
      · cases h

theorem groupPlan_conditions {s : State} {x : GroupRec} {ps : List (ClaimRec × Plan)} (h : s.groupPlan x = some ps) :
    ps.map Prod.fst = s.memberClaims x ∧ ∀ c ∈ s.memberClaims x, s.grantConditions c = true := by
  unfold State.groupPlan at h
  simp only [] at h
  split at h
  · rename_i a
    refine ⟨planMembers_mem h, fun c hc => ?_⟩
    have := List.all_eq_true.1 a c hc
    simp only [Bool.and_eq_true] at this
    exact this.1
  · cases h

theorem grantAll_granting (v : ClaimRec → Nat) (ps : List (ClaimRec × Plan)) (s : State)
    (h : ∀ p ∈ ps, ∀ n ∈ s.members p.1.mover,
      (s.setRec n).setup.isSome = true ∧ (s.setRec n).state ≠ .dark ∧ (s.setRec n).state ≠ .barred) :
    Granting s (ps.foldl (fun t p => t.grant p.1 (v p.1) p.2) s) := by
  induction ps generalizing s with
  | nil => exact Granting.refl s
  | cons p ps ih =>
    have a := grant_granting s p.1 (v p.1) p.2 (h p (List.mem_cons_self ..))
    rw [List.foldl_cons]
    refine a.trans (ih _ fun q hq n hn => ?_)
    rw [a.members] at hn
    obtain ⟨b, c, d⟩ := h q (List.mem_cons_of_mem _ hq) n hn
    rcases a.sets n with e | ⟨-, -, -, e⟩
    · rw [e]
      exact ⟨b, c, d⟩
    · rw [e]
      exact ⟨b, by simp, by simp⟩

theorem grantGroup_granting {s : State} {g : Nat} {x : GroupRec} {ps : List (ClaimRec × Plan)} (hx : s.group? g = some x)
    (h : s.groupPlan x = some ps) : Granting s (s.grantGroup g x ps) := by
  obtain ⟨e, k⟩ := groupPlan_conditions h
  unfold State.grantGroup
  simp only []
  have a := grantAll_granting (s.groupSpeed x.sync (s.memberClaims x)) ps s fun p hp n hn =>
    grantConditions_members (k p.1 (e ▸ List.mem_map_of_mem hp)) hn
  refine a.trans ⟨rfl, ⟨id, by simp [State.putGroup], Regranted.refl⟩, fun _ => .inl rfl, fun j => ?_⟩
  rw [group?_putGroup]
  split
  · rename_i m
    obtain ⟨rfl, -⟩ := m
    refine .inr ⟨x, ?_, rfl⟩
    rw [grantAll_frame]
    exact hx
  · exact .inl rfl

theorem examine_granting {s t : State} {e : Entry} (h : s.examine e = some t) : Granting s t := by
  unfold State.examine at h
  split at h <;> split at h
  · rw [Option.map_eq_some_iff] at h
    obtain ⟨p, a, rfl⟩ := h
    obtain ⟨b, -, -⟩ := grantPlan_conditions a
    exact grant_granting _ _ _ _ fun n hn => grantConditions_members b hn
  · cases h
  · rw [Option.map_eq_some_iff] at h
    obtain ⟨ps, a, rfl⟩ := h
    exact grantGroup_granting ‹_› a
  · cases h

/-- What a pass can do to the tables. -/
theorem pass_granting (s : State) : Granting s s.pass :=
  pass_keeps (Granting s) (fun _ _ _ h => h.trans ⟨rfl, ⟨id, by simp, Regranted.refl⟩, fun _ => .inl rfl, fun _ => .inl rfl⟩)
    (fun _ _ _ h k => h.trans (examine_granting k)) s (Granting.refl s)

theorem passIf_granting (b : Bool) (s : State) : Granting s (passIf b s) := by
  unfold passIf
  split
  · exact pass_granting s
  · exact Granting.refl s

end Sys2Proof.Machine
end

