-- ==== Sys2Proof/Laws/Queues.lean ====
section
/-! SUPPORT. The entries of the wait queues stand for waiting claims and READY groups, so a pass grants nothing else: claims that do not wait are left alone. -/

namespace Sys2Proof.Machine

/-- The laws that the queues rest on. -/
def QueueLaws (s : State) : Prop := (s.claims.map ClaimRec.number).Nodup ∧ GroupsWait s

/-- The laws of the queues under a change of claims that keeps number, group and wait timer, and which claims wait. -/
theorem QueueLaws.map {s : State} (q : QueueLaws s) (f : ClaimRec → ClaimRec) (hn : ∀ c, (f c).number = c.number)
    (hg : ∀ c, (f c).group = c.group) (ht : ∀ c, (f c).waitTimer = c.waitTimer)
    (hw : ∀ c, (f c).state = .waiting ↔ c.state = .waiting) : QueueLaws (s.mapClaims f) := by
  refine ⟨by rw [numbers_mapClaims s f hn]; exact q.1, fun g x hx hs n hm => ?_, fun d hd hs hd' => ?_⟩
  · obtain ⟨c, hc, cs, cg⟩ := q.2.1 g x hx hs n hm
    exact ⟨f c, by rw [claim?_mapClaims s f hn, hc]; rfl, (hw c).2 cs, (hg c).trans cg⟩
  · obtain ⟨c, hc, rfl⟩ := List.mem_map.1 hd
    rw [ht]
    exact q.2.2 c hc ((hw c).1 hs) (by rw [← hg c]; exact hd')

theorem Reheld.waiting {c d : ClaimRec} (h : Reheld c d) : d.state = .waiting ↔ c.state = .waiting := by
  constructor
  · intro e
    by_cases k : c.holdable = true
    · have := h.holdable k
      simp [holdable_iff, e] at this
    · rw [← e, h.idle (by simpa using k)]
  · intro e
    rw [h.idle (by simp [ClaimRec.holdable, ClaimRec.running, e])]
    exact e

theorem QueueLaws.reheld {s t : State} (q : QueueLaws s) (h : ClaimsReheld s t) : QueueLaws t := by
  obtain ⟨f, rfl, k⟩ := h
  exact q.map f (fun c => (k c).number) (fun c => (k c).group) (fun c => by rw [(k c).same]) fun c => (k c).waiting

theorem ClaimLaws.queues {s : State} (h : ClaimLaws s) : QueueLaws s := ⟨h.1.1, h.2.2.2.2⟩

/-- An entry waits: its claim is WAITING in no group, or its group is READY. -/
def EntryWaits (s : State) : Entry → Prop
  | .claim n => ∃ c, s.claim? n = some c ∧ c.state = .waiting ∧ c.group = none
  | .group g => ∃ x, s.group? g = some x ∧ x.state = .ready

theorem entryOf_waits {s : State} (hn : (s.claims.map ClaimRec.number).Nodup) {l : Link} {c : ClaimRec} {e : Entry} {k : ClaimClass}
    (hc : c ∈ s.claims) (h : s.entryOf l c = some (e, k)) : EntryWaits s e := by
  unfold State.entryOf at h
  split at h
  · rename_i w
    split at h
    · rename_i g
      simp only [Option.some.injEq, Prod.mk.injEq] at h
      rw [← h.1]
      exact ⟨c, claim?_of_mem hn hc, w.1, g⟩
    · split at h
      · split at h
        · rename_i x hx r
          simp only [Option.some.injEq, Prod.mk.injEq] at h
          rw [← h.1]
          exact ⟨x, hx, r.1⟩
        · cases h
      · cases h
  · cases h

/-- Two claims do not stand for one entry. -/
theorem entryOf_inj {s : State} {l : Link} {c d : ClaimRec} {e : Entry} {k k' : ClaimClass}
    (h : s.entryOf l c = some (e, k)) (h' : s.entryOf l d = some (e, k')) : c.number = d.number := by
  unfold State.entryOf at h h'
  split at h
  · split at h
    · simp only [Option.some.injEq, Prod.mk.injEq] at h
      rw [← h.1] at h'
      split at h'
      · split at h'
        · simp only [Option.some.injEq, Prod.mk.injEq, Entry.claim.injEq] at h'
          exact h'.1.symm
        · split at h'
          · split at h' <;> simp at h'
          · cases h'
      · cases h'
    · split at h
      · split at h
        · rename_i x hx r
          simp only [Option.some.injEq, Prod.mk.injEq] at h
          rw [← h.1] at h'
          split at h'
          · split at h'
            · simp at h'
            · split at h'
              · split at h'
                · rename_i y hy r'
                  simp only [Option.some.injEq, Prod.mk.injEq, Entry.group.injEq] at h'
                  rw [h'.1, hx, Option.some.injEq] at hy
                  subst hy
                  have := r.2.symm.trans r'.2
                  simpa using this
                · cases h'
              · cases h'
          · cases h'
        · cases h
      · cases h
  · cases h

theorem entries_nodup (s : State) (l : Link) (cs : List ClaimRec) (hn : (cs.map ClaimRec.number).Nodup) :
    ((cs.filterMap (s.entryOf l)).map Prod.fst).Nodup := by
  induction cs with
  | nil => simp
  | cons c cs ih =>
    simp only [List.map_cons, List.nodup_cons] at hn
    cases e : s.entryOf l c with
    | none =>
      simp only [List.filterMap_cons, e]
      exact ih hn.2
    | some p =>
      simp only [List.filterMap_cons, e, List.map_cons, List.nodup_cons]
      refine ⟨fun m => ?_, ih hn.2⟩
      obtain ⟨q, hq, e1⟩ := List.mem_map.1 m
      obtain ⟨d, hd, e2⟩ := List.mem_filterMap.1 hq
      have := entryOf_inj (k' := q.2) e (by rw [e2, ← e1])
      exact hn.1 (this ▸ List.mem_map_of_mem hd)

theorem queueOf_perm (s : State) (l : Link) : (s.queueOf l).Perm ((s.claims.filterMap (s.entryOf l)).map Prod.fst) := by
  unfold State.queueOf
  simp only []
  rw [← List.map_append]
  refine List.Perm.map _ ?_
  have := List.filter_append_perm (fun e : Entry × ClaimClass => decide (e.2 = .forShow)) (s.claims.filterMap (s.entryOf l))
  convert this using 3
  funext e
  cases e.2 <;> simp

theorem queueOf_nodup (s : State) (l : Link) (hn : (s.claims.map ClaimRec.number).Nodup) : (s.queueOf l).Nodup :=
  (queueOf_perm s l).nodup_iff.2 (entries_nodup s l _ hn)

theorem queueOf_waits (s : State) (l : Link) (hn : (s.claims.map ClaimRec.number).Nodup) {e : Entry} (h : e ∈ s.queueOf l) :
    EntryWaits s e := by
  obtain ⟨q, hq, rfl⟩ := List.mem_map.1 ((queueOf_perm s l).mem_iff.1 h)
  obtain ⟨c, hc, k⟩ := List.mem_filterMap.1 hq
  exact entryOf_waits hn hc (k := q.2) k

/-! ## Grants of waiting entries -/

theorem claims_of_grants (v : ClaimRec → Nat) (ps : List (ClaimRec × Plan)) (s : State) (c : ClaimRec)
    (h : ∀ p ∈ ps, p.1.number ≠ c.number) (hc : c ∈ s.claims) :
    c ∈ (ps.foldl (fun t p => t.grant p.1 (v p.1) p.2) s).claims := by
  induction ps generalizing s with
  | nil => exact hc
  | cons p ps ih =>
    rw [List.foldl_cons]
    refine ih _ (fun q hq => h q (List.mem_cons_of_mem _ hq)) ?_
    rw [grant_claims]
    refine List.mem_map.2 ⟨c, hc, ?_⟩
    rw [if_neg (Ne.symm (h p (List.mem_cons_self ..)))]

theorem Granting.numbers {s t : State} (h : Granting s t) : t.claims.map ClaimRec.number = s.claims.map ClaimRec.number := by
  obtain ⟨f, e, hf⟩ := h.claims
  rw [e, List.map_map]
  refine List.map_congr_left fun c _ => ?_
  show (f c).number = _
  rw [(hf c).same]

/-- A claim of the table after grants is one of the table before, regranted. -/
theorem Granting.before {s t : State} (h : Granting s t) {d : ClaimRec} (hd : d ∈ t.claims) : ∃ c ∈ s.claims, Regranted c d := by
  obtain ⟨f, e, hf⟩ := h.claims
  rw [e] at hd
  obtain ⟨c, hc, rfl⟩ := List.mem_map.1 hd
  exact ⟨c, hc, hf c⟩

/-- The effect of granting the waiting claims `ns`: claims with other numbers stay. -/
theorem examine_spares {s t : State} {e : Entry} (q : QueueLaws s) (w : EntryWaits s e) (h : s.examine e = some t) :
    (∀ c ∈ s.claims, c.state ≠ .waiting → c ∈ t.claims) ∧ QueueLaws t ∧ ∀ e', e' ≠ e → EntryWaits s e' → EntryWaits t e' := by
  have gr := examine_granting h
  have nd : (t.claims.map ClaimRec.number).Nodup := gr.numbers ▸ q.1
  have keep : ∀ c ∈ t.claims, ∀ n, c.number = n → t.claim? n = some c := fun c hc n hn => hn ▸ claim?_of_mem nd hc
  have timers : ∀ c ∈ t.claims, c.state = .waiting → c.group.isSome = true → c.waitTimer = none := by
    intro d hd hw hg
    obtain ⟨c, hc, k⟩ := gr.before hd
    rcases k.state with rfl | e | e
    · exact q.2.2 _ hc hw hg
    · rw [e] at hw; cases hw
    · rw [e] at hw; cases hw
  cases e with
  | claim n =>
    obtain ⟨c, hc, hw, hg⟩ := w
    simp only [State.examine, hc, Option.map_eq_some_iff] at h
    obtain ⟨p, -, rfl⟩ := h
    have cn := mem_of_claim? hc
    have stay : ∀ d ∈ s.claims, d.number ≠ n → d ∈ (s.grant c c.speed p).claims := by
      intro d hd hn
      rw [grant_claims]
      refine List.mem_map.2 ⟨d, hd, ?_⟩
      rw [if_neg (by rw [cn.2]; exact hn)]
    have groups : ∀ g, (s.grant c c.speed p).group? g = s.group? g := fun g => by
      unfold State.group?
      rw [grant_frame]
    refine ⟨fun d hd hs => stay d hd fun e => ?_, ⟨nd, ⟨fun g x hx hs m hm => ?_, timers⟩⟩, fun e' ne we => ?_⟩
    · have := claim?_of_mem q.1 hd
      rw [e, hc, Option.some.injEq] at this
      exact hs (this ▸ hw)
    · rw [groups] at hx
      obtain ⟨d, hd, ds, dg⟩ := q.2.1 g x hx hs m hm
      have dm := mem_of_claim? hd
      refine ⟨d, keep d (stay d dm.1 fun e => ?_) m dm.2, ds, dg⟩
      have := claim?_of_mem q.1 dm.1
      rw [e, hc, Option.some.injEq] at this
      rw [← this, hg] at dg
      cases dg
    · cases e' with
      | claim k =>
        obtain ⟨d, hd, ds, dg⟩ := we
        have dm := mem_of_claim? hd
        exact ⟨d, keep d (stay d dm.1 fun e => ne (by rw [← dm.2, e])) k dm.2, ds, dg⟩
      | group k =>
        obtain ⟨x, hx, xs⟩ := we
        exact ⟨x, by rw [groups]; exact hx, xs⟩
  | group g =>
    obtain ⟨x, hx, xs⟩ := w
    simp only [State.examine, hx, Option.map_eq_some_iff] at h
    obtain ⟨ps, hp, rfl⟩ := h
    have hm := (groupPlan_conditions hp).1
    have member : ∀ p ∈ ps, p.1 ∈ s.claims ∧ p.1.state = .waiting ∧ p.1.group = some g := by
      intro p hp'
      have : p.1 ∈ s.memberClaims x := hm ▸ List.mem_map_of_mem hp'
      obtain ⟨n, hn, e⟩ := List.mem_filterMap.1 this
      obtain ⟨c, hc, cs, cg⟩ := q.2.1 g x hx (by rw [xs]; decide) n hn
      rw [hc, Option.some.injEq] at e
      exact e ▸ ⟨(mem_of_claim? hc).1, cs, cg⟩
    have stay : ∀ d ∈ s.claims, (d.state = .waiting → d.group ≠ some g) → d ∈ (s.grantGroup g x ps).claims := by
      intro d hd hn
      unfold State.grantGroup
      refine claims_of_grants _ ps s d (fun p hp' e => ?_) hd
      obtain ⟨a, b, k⟩ := member p hp'
      have h1 := claim?_of_mem q.1 a
      have h2 := claim?_of_mem q.1 hd
      rw [e, h2, Option.some.injEq] at h1
      exact hn (h1 ▸ b) (h1 ▸ k)
    have groups : ∀ k, (s.grantGroup g x ps).group? k =
        if k = g then some { x with state := .granted, timer := none } else s.group? k := fun k => by
      unfold State.grantGroup
      simp only []
      rw [group?_putGroup]
      have r := Tab.record?_range hx
      by_cases e : k = g
      · rw [if_pos ⟨e, r⟩, if_pos e]
      · rw [if_neg (fun h => e h.1), if_neg e]
        unfold State.group?
        rw [grantAll_frame]
    refine ⟨fun d hd hs => stay d hd fun w => absurd w hs, ⟨nd, ⟨fun k y hy ys m hm' => ?_, timers⟩⟩, fun e' ne we => ?_⟩
    · rw [groups] at hy
      split at hy
      · simp only [Option.some.injEq] at hy
        subst hy
        exact absurd rfl ys
      · rename_i kg
        obtain ⟨d, hd, ds, dg⟩ := q.2.1 k y hy ys m hm'
        have dm := mem_of_claim? hd
        refine ⟨d, keep d (stay d dm.1 fun _ e => ?_) m dm.2, ds, dg⟩
        rw [dg, Option.some.injEq] at e
        exact kg e
    · cases e' with
      | claim k =>
        obtain ⟨d, hd, ds, dg⟩ := we
        have dm := mem_of_claim? hd
        exact ⟨d, keep d (stay d dm.1 fun _ e => by rw [dg] at e; cases e) k dm.2, ds, dg⟩
      | group k =>
        obtain ⟨y, hy, ys⟩ := we
        refine ⟨y, ?_, ys⟩
        rw [groups, if_neg (fun e => ne (by rw [e]))]
        exact hy

/-! ## A pass -/

/-- A property kept by every grant of a waiting entry is kept by a pass, where it gives the laws of the queues. -/
theorem pass_keeps_waiting (P : State → Prop) (laws : ∀ s, P s → QueueLaws s)
    (hptr : ∀ s p k, P s → P { s with pointer := p, served := k })
    (hex : ∀ s e t, P s → EntryWaits s e → s.examine e = some t → P t) (s : State) (h : P s) : P s.pass := by
  refine pass_keeps_of_turn P hptr (fun s hs => ?_) s h
  unfold State.turn
  split
  · exact hs
  · have all : ∀ (w : Nat) (es : List Entry) (s : State) (b : Bool), P s → es.Nodup → (∀ e ∈ es, EntryWaits s e) →
        P (examineAll w es s b).1 := by
      intro w es
      induction es with
      | nil => exact fun s b hs _ _ => hs
      | cons e es ih =>
        intro s b hs nd hw
        unfold examineAll
        split
        · exact ih _ _ hs (List.nodup_cons.1 nd).2 fun e' he' => hw e' (List.mem_cons_of_mem _ he')
        · rename_i t ht
          have we := hw e (List.mem_cons_self ..)
          have k := hex s e t hs we ht
          have sp := (examine_spares (laws s hs) we ht).2.2
          split
          · exact hptr t t.pointer _ k
          · refine ih _ _ (hptr t t.pointer _ k) (List.nodup_cons.1 nd).2 fun e' he' => ?_
            have ne : e' ≠ e := fun x => (List.nodup_cons.1 nd).1 (x ▸ he')
            have := sp e' ne (hw e' (List.mem_cons_of_mem _ he'))
            cases e' <;> exact this
    exact all _ _ _ _ hs (queueOf_nodup _ _ (laws _ hs).1) fun e he => queueOf_waits _ _ (laws _ hs).1 he

/-- A pass leaves every claim that does not wait alone, and keeps the laws of the queues. -/
theorem pass_spares (s : State) (q : QueueLaws s) :
    QueueLaws s.pass ∧ ∀ c ∈ s.claims, c.state ≠ .waiting → c ∈ s.pass.claims := by
  refine pass_keeps_waiting (fun t => QueueLaws t ∧ ∀ c ∈ s.claims, c.state ≠ .waiting → c ∈ t.claims) (fun _ h => h.1)
    (fun _ _ _ h => h) (fun t e u h w x => ?_) s ⟨q, fun _ h _ => h⟩
  obtain ⟨a, b, -⟩ := examine_spares h.1 w x
  exact ⟨b, fun c hc hs => a c (h.2 c hc hs) hs⟩

/-- A claim that does not wait is found after a pass as it was. -/
theorem claim?_pass {s : State} (q : QueueLaws s) {n : Nat} {c : ClaimRec} (h : s.claim? n = some c) (w : c.state ≠ .waiting) :
    s.pass.claim? n = some c := by
  obtain ⟨a, b⟩ := pass_spares s q
  obtain ⟨m, e⟩ := mem_of_claim? h
  exact e ▸ claim?_of_mem a.1 (b c m w)

theorem passIf_spares (b : Bool) (s : State) (q : QueueLaws s) :
    QueueLaws (passIf b s) ∧ ∀ c ∈ s.claims, c.state ≠ .waiting → c ∈ (passIf b s).claims := by
  unfold passIf
  split
  · exact pass_spares s q
  · exact ⟨q, fun _ h _ => h⟩

theorem claim?_passIf {s : State} (q : QueueLaws s) {n : Nat} {c : ClaimRec} (b : Bool) (h : s.claim? n = some c)
    (w : c.state ≠ .waiting) : (passIf b s).claim? n = some c := by
  unfold passIf
  split
  · exact claim?_pass q h w
  · exact h

end Sys2Proof.Machine
end

