-- ==== Sys2Proof/Tests/Slice0.lean ====
section
/-! SUPPORT. Tests: ill-formed commands refused, small examples of the manual, and for each statement with hypotheses a state and operands that meet them, at the boundary values of its clauses. -/

namespace Sys2Proof.Tests

open Sys2Proof Sys2Proof.Machine

-- One theorem at a time: a theorem closed by the kernel waits for every earlier one, and waiting threads take memory.
set_option Elab.async false

/-! ## Ill-formed commands -/

/-- A CLAIM of set 1 to 5000 mm. -/
def claimReq : ClaimReq :=
  { kind := .move, cls := .forShow, mover := .set 1, waitAllowed := true, keep := false, cueTag := none, first := 5000
    second := 1000, waitLimit := none, group := none, deadline := none }

/-- A CONFIGURE SET of set 5 at station 5 of FB0. -/
def configureReq : ConfigureReq :=
  { set := 5, segment := .fb0, address := 5, depth := 12000, lower := 1000, upper := 18000, rated := 1200, stopMode := .auto
    stopConstant := none, fixedAllowance := none, arrivalTol := none, stallWindow := none, top := 200, drop := 300, fore := 100
    aft := 100, sway := none, loadMin := 0, loadMax := 4000 }

/-- The hang of every test set. -/
def hang : Hang := { top := 200, drop := 300, fore := 100, aft := 100, sway := 50, loadMin := 0, loadMax := 4000 }

theorem test_illFormed_number : wellFormed (.retire .dl0 0 256) = false := by decide
theorem test_illFormed_mover : wellFormed (.claim .dl0 0 { claimReq with mover := .bond 256 }) = false := by decide
theorem test_illFormed_word : wellFormed (.claim .dl0 0 { claimReq with first := 65536 }) = false := by decide
theorem test_illFormed_optionalWord : wellFormed (.claim .dl0 0 { claimReq with deadline := some 65536 }) = false := by decide
theorem test_illFormed_configure : wellFormed (.configureSet .dl0 0 { configureReq with depth := 65536 }) = false := by decide
theorem test_illFormed_hang :
    wellFormed (.rehang .dl0 0 { set := 1, hang := { hang with sway := 65536 } }) = false := by decide
theorem test_illFormed_bound :
    wellFormed (.addKeepout .dl0 0 { depthLo := -32769, depthHi := 0, heightLo := 0, heightHi := 0, tag := none }) = false := by
  decide
theorem test_illFormed_source :
    wellFormed (.clearAttention .dl0 0 { sel := .named [20], expected := none }) = false := by decide
theorem test_illFormed_bind :
    wellFormed (.bind .dl0 0 { sets := List.replicate 86 1, skew := none }) = false := by decide
theorem test_illFormed_kind : wellFormed (.unknownRequest .dl0 0 51#8) = false := by decide
theorem test_illFormed_claimTimer : wellFormed (.stallTimerExpiry 161) = false := by decide
theorem test_illFormed_groupTimer : wellFormed (.groupWaitLimitExpiry 25) = false := by decide
theorem test_illFormed_testFrame : wellFormed (.testFrameCompared .fb0 (List.replicate 8 none)) = false := by decide
theorem test_wellFormed_claim : wellFormed (.claim .dl0 0 claimReq) = true := by decide

/-! ## The table gives no bits -/

theorem test_noWordSpellsACommand : decodeTableWord 8 5 = none := rfl

/-! ## Examples of the manual -/

/-- A rig entry of station `a` of a segment, at a depth. -/
def rigOf (f : Segment) (a depth : Nat) : RigEntry :=
  { segment := f, address := a, depth := depth, lower := 1000, upper := 18000, rated := 1200, stopMode := .auto
    stopConstant := 600, fixedAllowance := none, arrivalTol := 5, stallWindow := 2000 }

/-- A set with the test hang. -/
def setupOf (f : Segment) (a depth : Nat) : Setup := { rig := rigOf f a depth, hang := hang }

theorem test_allowance_1000 : (setupOf .fb0 1 1000).allowance 1000 = 300 := by decide
theorem test_allowance_750 :
    Setup.allowance { rig := { rigOf .fb0 1 1000 with stopConstant := 500 }, hang := hang } 750 = 188 := by decide
theorem test_resetStop : State.reset.stop.state = .latched := rfl
theorem test_resetRoles : (State.reset.link .dl0).role = .full ∧ (State.reset.link .dl2).role = .full := by decide

/-! ## Small states -/

/-- A set's record with its rest position and last report at `p`. -/
def setAt (u : Setup) (st : SetState) (p : Int) : SetRec :=
  { SetRec.vacant with
    setup := some u, state := st, identityVerified := true, restPosition := some p
    lastReport := some { status := .ready, position := p, velocity := 0, load := 300 } }

/-- A station configured for a set, with a fresh report. -/
def stationOf (n : Nat) : Station := { Station.reset with set := some n, fresh := true, missCount := 2 }

/-- Four sets on FB0 in RUN: sets 1 and 2 RESTING at 2000 mm, set 3 BARRED, set 4 DARK with its identity verified. -/
def tower : State :=
  { State.reset with
    sets := Tab.put (Tab.put (Tab.put (Tab.put State.reset.sets 1 (setAt (setupOf .fb0 1 1000) .resting 2000))
      2 (setAt (setupOf .fb0 2 5000) .resting 2000))
      3 { setAt (setupOf .fb0 3 9000) .barred 2000 with restPosition := none, barredCause := some .drift })
      4 { setAt (setupOf .fb0 4 14000) .dark 2000 with restPosition := none }
    buses := { State.reset.buses with fb0 := { Bus.reset with
      state := .polling
      stations := Tab.put (Tab.put (Tab.put (Tab.put Bus.reset.stations 1 (stationOf 1)) 2 (stationOf 2)) 3 (stationOf 3))
        4 (stationOf 4) } }
    stop := { State.reset.stop with state := .run } }

/-- The supervision record of claim 1. -/
def supOf : Supervision :=
  { members := [{ set := 1, segment := .fb0, address := 1, takeCount := 4, takenMark := false
                  fresh := some { status := .ready, position := 5000, load := 300 }, lastPosition := 2000, stallRef := none }]
    take := .running, stall := some 7, stopWindow := .running 7, deadline := .running 7 }

/-- Claim 1 on set 1, in a state and with its hold reasons. -/
def claimIn (st : ClaimState) (r : Reasons) : ClaimRec :=
  { claimRecord claimReq .dl0 1 with
    memberTargets := [(1, 5000)], grantedSpeed := some 1000, starts := [(1, 2000)]
    span := some { depthLo := 850, depthHi := 1150, heightLo := 1250, heightHi := 5650 }, state := st, reasons := r
    sup := some supOf }

/-- The tower with claim 1 in a state other than WAITING on set 1. -/
def holding (c : ClaimRec) : State :=
  { tower with
    sets := Tab.put tower.sets 1 { setAt (setupOf .fb0 1 1000) .engaged 2000 with claim := some 1 }, claims := [c] }

/-- The tower with claim 1 WAITING. -/
def waiting : State :=
  { tower with
    sets := Tab.put tower.sets 1 { setAt (setupOf .fb0 1 1000) .resting 2000 with claim := some 1 }
    claims := [{ claimRecord claimReq .dl0 1 with waitLimit := some 600, waitTimer := some 3 }] }

/-- Reasons with OPERATOR alone. -/
def byOperator : Reasons := { Reasons.empty with operator := true }
/-- Reasons with DESK_LOST alone. -/
def byLoss : Reasons := { Reasons.empty with deskLost := true }
/-- Reasons with ESTOP alone. -/
def byStop : Reasons := { Reasons.empty with estop := true }

/-- A FORMING group of DL0 with members. -/
def groupOf (st : GroupState) (ns : List Nat) (k : Nat) : GroupRec :=
  { owner := .dl0, cls := .forShow, sync := true, expected := k, members := ns, waitLimit := some 600, state := st
    timer := some 3 }

/-- The tower with one link changed. -/
def linked (l : Link) (x : LinkRec) : State := { tower with links := tower.links.put l x }

/-- A link of role FULL after reset. -/
def full : LinkRec := LinkRec.reset .full

/-- A good frame's bytes: kind, length, payload, CRC. -/
def frameBytes (kind : Byte) (payload : List Byte) : List Byte :=
  (kind :: byteOf payload.length :: payload) ++ bytes16 (crc16 (kind :: byteOf payload.length :: payload))

/-! ## Laws of the small states -/

/-- A state without groups whose claims and stop state pass the checks has the laws of the Claim Table. -/
theorem claimLaws_of_noGroups (s : State) (hg : s.groups = Vector.replicate 24 none)
    (hn : (s.claims.map ClaimRec.number).Nodup ∧ ∀ c ∈ s.claims, 1 ≤ c.number ∧ c.number ≤ 160)
    (hh : ∀ c ∈ s.claims, (c.state = .held ↔ c.reasons ≠ Reasons.empty))
    (hs : ∀ c ∈ s.claims, (s.stop.state ≠ .run → c.running = false ∧ (c.state = .held → c.reasons.estop = true)) ∧
      (s.stop.holdAll = true → c.running = false ∧ (c.state = .held → c.reasons.all = true)))
    (hp : (s.stop.state ≠ .stopped → s.stop.channelA = false ∧ s.stop.channelB = false) ∧
      (s.stop.discrepancy.isSome = true → s.stop.channelA ≠ s.stop.channelB))
    (hw : ∀ c ∈ s.claims, c.state = .waiting → c.group.isSome = true → c.waitTimer = none) : ClaimLaws s := by
  refine ⟨hn, hh, hs, hp, ?_, hw⟩
  intro g x hx
  have h0 : s.group? g = none := by
    simp only [State.group?, Tab.record?, Tab.get?, hg]
    split
    · rfl
    · simp only [Vector.getElem?_replicate]
      split <;> rfl
  rw [h0] at hx
  cases hx

theorem holding_lawful (st : ClaimState) (r : Reasons) (h : st = .held ↔ r ≠ Reasons.empty) : ClaimLaws (holding (claimIn st r)) := by
  refine claimLaws_of_noGroups _ rfl ?_ ?_ ?_ ?_ ?_
  · simp [holding, claimIn, claimRecord]
  · simpa [holding, claimIn] using h
  · simp [holding, tower, State.reset, State.coldReset, StopRec.reset]
  · simp [holding, tower, State.reset, State.coldReset, State.resetPins, StopRec.reset]
  · simp [holding, claimIn, claimRecord, claimReq]

theorem waiting_lawful : ClaimLaws waiting := by
  refine claimLaws_of_noGroups _ rfl ?_ ?_ ?_ ?_ ?_ <;> decide +kernel

/-! ## Every statement's hypotheses are met -/

theorem test_witness_StepTakesFrontCommand :
    (tower.withPending [.presence .dl0 0, .breakEnd .fb1]).pending = .presence .dl0 0 :: [.breakEnd .fb1] := rfl

theorem test_witness_EmptyQueuePassesOneMillisecond : waiting.pending = [] := rfl

theorem test_witness_RefusedUnread :
    (requestOf (.claim .dl0 7 claimReq) = some (.dl0, 7, .claim claimReq) ∧
      ((linked .dl0 (LinkRec.reset .lookup)).link .dl0).queue.length < 4 ∧
      ((linked .dl0 (LinkRec.reset .lookup)).link .dl0).priorityResponse = none ∧
      ((linked .dl0 (LinkRec.reset .lookup)).link .dl0).role = .lookup ∧
      kindOf (.claim claimReq) ∉ [1, 26, 27, 28, 32, 41, 42, 43, 45, 46, 49, 51]) ∧
    (((linked .dl0 (LinkRec.reset .hold)).link .dl0).role = .hold ∧
      kindOf .resume ∉ [1, 2, 3, 4, 26, 27, 28, 32, 41, 42, 43, 45, 46, 49, 51]) ∧
    requestOf (.holdClaim .dl0 7 161) = some (.dl0, 7, .holdClaim 161) ∧ (tower.link .dl0).role = .full ∧
    formOk (.holdClaim 161) = false ∧ formOk (.retireKeepout 17) = false := by decide +kernel

theorem test_witness_LinkAnswersItself :
    ((linked .dl1 (LinkRec.reset .off)).link .dl1).role = .off ∧
      (((0#8).toNat = 0 ∨ 4 < (0#8).toNat ∧ (0#8).toNat < 16 ∨ 51 < (0#8).toNat) ∧
        (4 < (5#8).toNat ∧ (5#8).toNat < 16) ∧ (4 < (15#8).toNat ∧ (15#8).toNat < 16) ∧ 51 < (52#8).toNat) ∧
      OpenDesk tower .dl1 := by unfold OpenDesk; decide +kernel

theorem test_witness_OpenDesk : OpenDesk tower .dl0 ∧ OpenDesk (linked .dl2 (LinkRec.reset .lookup)) .dl2 := by
  unfold OpenDesk; decide +kernel

/-- The tower with keep-out 16 in use. -/
def keptOut : State :=
  { tower with keepouts := Tab.put tower.keepouts 16 (some { region := { depthLo := 20000, depthHi := 20100, heightLo := 0, heightHi := 100 }, tag := some 9 }) }

theorem test_witness_LookupKeepoutAnswers :
    OpenDesk keptOut .dl0 ∧ Tab.record? keptOut.keepouts 1 = none ∧ (Tab.record? keptOut.keepouts 16).isSome = true := by
  unfold OpenDesk; decide +kernel

/-- The tower with group 24 in use. -/
def grouped (st : GroupState) (ns : List Nat) (k : Nat) : State := { tower with groups := Tab.put tower.groups 24 (some (groupOf st ns k)) }

theorem test_witness_ClaimLookupsAnswer :
    OpenDesk (holding (claimIn .moving Reasons.empty)) .dl0 ∧ (holding (claimIn .moving Reasons.empty)).claim? 160 = none ∧
      ((holding (claimIn .moving Reasons.empty)).claim? 1).isSome = true ∧ OpenDesk (grouped .forming [] 2) .dl0 ∧
      (grouped .forming [] 2).group? 1 = none ∧ ((grouped .forming [] 2).group? 24).isSome = true := by
  unfold OpenDesk; decide +kernel

/-- The tower with sets 1 and 2 in bond 16. -/
def bonded : State :=
  { tower with
    sets := Tab.put (Tab.put tower.sets 1 { setAt (setupOf .fb0 1 1000) .resting 2000 with bond := some 16 })
      2 { setAt (setupOf .fb0 2 5000) .resting 2000 with bond := some 16 }
    bonds := Tab.put tower.bonds 16 (some { members := [1, 2], skew := 25, claim := none }) }

theorem test_witness_TowerLookupsAnswer :
    OpenDesk bonded .dl0 ∧ bonded.bond? 1 = none ∧ (bonded.bond? 16).isSome = true ∧ (bonded.setRec 128).setup = none ∧
      ((bonded.bus .fb0).station 1).set = some 1 ∧ ((bonded.bus .fb0).station 64).set = none := by
  unfold OpenDesk; decide +kernel

theorem test_witness_TowerLookupsAnswer_digest :
    InRanges (setupOf .fb1 64 24000) ∧ digestSetImage (some (setupOf .fb0 1 1000)) =
      (List.range 24).map (fun i => byteOf (digestNumber (setupOf .fb0 1 1000) / 256 ^ (23 - i))) ∧
      ([1, 2, 3, 4] : List Nat).length ≤ 4 := by unfold InRanges; decide +kernel

theorem test_witness_FrameBegins :
    (tower.link .dl0).role ≠ .off ∧ (tower.link .dl0).receiving = none ∧ (1 ≤ (4#8).toNat ∧ (4#8).toNat ≤ 4) ∧
      (tower.link .dl0).layer0 = .free ∧
      ((linked .dl0 { full with layer0 := .filling }).link .dl0).layer1 = .free := by decide +kernel

/-- A link of role FULL receiving a frame. -/
def receiving (b : Byte) (d : Destination) : LinkRec := { full with receiving := some { first := b, dest := d }, layer0 := .filling }

theorem test_witness_GoodRegularFrameEnds :
    ((linked .dl0 (receiving 16#8 (.layer .l0))).link .dl0).receiving = some { first := 16#8, dest := .layer .l0 } ∧
      goodFrame (16#8 :: (frameBytes 16#8 [0#8, 5#8]).tail) false = true ∧
      ((linked .dl0 (receiving 16#8 (.layer .l0))).link .dl0).presence ≠ .lost ∧
      ((linked .dl0 (receiving 16#8 .overrun)).link .dl0).receiving = some { first := 16#8, dest := .overrun } := by
  decide +kernel

theorem test_witness_BadFrameEnds :
    ((linked .dl0 (receiving 16#8 (.layer .l0))).link .dl0).receiving = some { first := 16#8, dest := .layer .l0 } ∧
      goodFrame (16#8 :: [0#8, 0#8, 0#8]) false = false ∧ ([16#8, 0#8, 0#8] : List Byte).length < 4 ∧
      94 < (List.replicate 95 (16#8 : Byte)).length := by decide +kernel

/-- A HELD claim of DL0 with DESK_LOST, and the link LOST and receiving. -/
def lostDesk : State :=
  { holding (claimIn .held byLoss) with
    links := tower.links.put .dl0 { receiving 16#8 (.layer .l0) with presence := .lost } }

theorem test_witness_LostDeskReturns :
    (lostDesk.link .dl0).receiving = some { first := 16#8, dest := .layer .l0 } ∧
      goodFrame (16#8 :: (frameBytes 16#8 [0#8, 5#8]).tail) false = true ∧ (lostDesk.link .dl0).presence = .lost ∧
      ClaimLaws lostDesk ∧ ∃ c ∈ lostDesk.claims, c.owner = .dl0 ∧ c.state = .held ∧ c.reasons.deskLost = true := by
  refine ⟨by decide +kernel, by decide +kernel, by decide +kernel, ?_, by decide +kernel⟩
  exact claimLaws_of_noGroups _ rfl (by decide +kernel) (by decide +kernel) (by decide +kernel) (by decide +kernel)
    (by decide +kernel)

/-- A response to PRESENCE. -/
def answered : Response := tower.response 1#8 0 false (Reply.of .done)

/-- A link whose priority response slot is occupied and whose slot is empty. -/
def answering (d : Destination) : LinkRec := { receiving 4#8 d with layer0 := .free, priorityResponse := some answered }

theorem test_witness_PriorityFrameWaits :
    ((linked .dl0 (answering .slot)).link .dl0).receiving = some { first := 4#8, dest := .slot } ∧
      goodFrame (4#8 :: (frameBytes 4#8 [0#8, 5#8, 1#8]).tail) false = true ∧
      ((linked .dl0 (answering .slot)).link .dl0).presence ≠ .lost ∧
      ((linked .dl0 (answering .slot)).link .dl0).priorityResponse ≠ none := by decide +kernel

/-- A link with a POSTED request in layer 1, a request in its slot, and `n` responses queued. -/
def busy (n : Nat) : LinkRec :=
  { full with
    layer1 := .posted { kind := 43#8, payload := [0#8, 5#8] }, posted := [.l1]
    slot := some { frame := { kind := 1#8, payload := [0#8, 6#8] }, superseded := true }
    queue := List.replicate n answered }

theorem test_witness_RequestsTakenFromLink :
    ((linked .dl0 (busy 3)).link .dl0).posted = [.l1] ∧
      ((linked .dl0 (busy 3)).link .dl0).layer .l1 = .posted { kind := 43#8, payload := [0#8, 5#8] } ∧
      OpenDesk (linked .dl0 (busy 3)) .dl0 ∧ 4 ≤ ((linked .dl0 (busy 4)).link .dl0).queue.length ∧
      ((linked .dl0 (busy 3)).link .dl0).slot.isSome = true ∧ ((linked .dl0 (busy 3)).link .dl0).role ≠ .off ∧
      ((linked .dl0 (busy 3)).link .dl0).priorityResponse = none := by unfold OpenDesk; decide +kernel

/-- A link of a role with a POSTED frame in layer 0. -/
def posting (x : Role) (f : Frame) : LinkRec := { LinkRec.reset x with layer0 := .posted f, posted := [.l0] }

/-- Frames that are short, of a kind that names no request, of another layout, and readable. -/
theorem test_witness_RequestsTakenFromLink_frames :
    OpenDesk (linked .dl0 (posting .hold { kind := 34#8, payload := [0#8, 5#8] })) .dl0 ∧
      (([0#8] : List Byte).length < 2 ∧ 4 < (43#8 : Byte).toNat) ∧ (51 < (52#8 : Byte).toNat ∧ (0#8 : Byte).toNat = 0) ∧
      readRequest 34 [] = none ∧ readRequest 43 [] = some .readDigest ∧ readRequest 51 [1#8] = none ∧ readRequest 16 [] = some .releaseAll ∧
      requestOf (.readDigest .dl0 (word16 0#8 5#8)) = some (.dl0, word16 0#8 5#8, .readDigest) := by
  unfold OpenDesk; decide +kernel

/-- Priority requests that are short, of another layout, and readable; and a good priority frame on a link whose priority
response slot is empty. -/
theorem test_witness_RequestsTakenFromLink_slot :
    (readRequest 1 [] = some .presence ∧ requestOf (.presence .dl0 6) = some (.dl0, 6, .presence) ∧ readRequest 4 [] = none ∧
      readRequest 4 [1#8] = some (.holdClaim 1)) ∧
      ((linked .dl0 (receiving 4#8 .slot)).link .dl0).receiving = some { first := 4#8, dest := .slot } ∧
      goodFrame (4#8 :: (frameBytes 4#8 [0#8, 5#8, 1#8]).tail) false = true ∧
      ((linked .dl0 (receiving 4#8 .slot)).link .dl0).presence ≠ .lost ∧
      ((linked .dl0 (receiving 4#8 .slot)).link .dl0).priorityResponse = none := by decide +kernel

/-- A CLAIM payload at the ends of its two flag bytes. -/
theorem test_claimPayload :
    (readRequest 18 [31#8, 15#8, 16#8, 0#8, 1#8, 0#8, 2#8, 0#8, 3#8, 0#8, 4#8, 5#8, 0#8, 6#8]).isSome = true ∧
      readRequest 18 [32#8, 0#8, 1#8, 0#8, 0#8, 0#8, 0#8, 0#8, 0#8, 0#8, 0#8, 0#8, 0#8, 0#8] = none ∧
      readRequest 18 [0#8, 16#8, 1#8, 0#8, 0#8, 0#8, 0#8, 0#8, 0#8, 0#8, 0#8, 0#8, 0#8, 0#8] = none := by decide +kernel

theorem test_witness_Transmission :
    ((linked .dl0 (busy 4)).link .dl0).sending = none ∧
      ((linked .dl0 { busy 4 with sending := some { priority := false, bytes := [1#8] } }).link .dl0).sending =
        some { priority := false, bytes := [1#8] } := by decide +kernel

/-- DL0 PRESENT with its timer running, owning claim 1. -/
def presenting (c : ClaimRec) : State :=
  { holding c with links := tower.links.put .dl0 { busy 1 with presence := .present, presenceTimer := some ⟨3, 100⟩ } }

theorem test_witness_LossAndHoldAll :
    (((presenting (claimIn .moving Reasons.empty)).link .dl0).presence = .present ∧
      ((presenting (claimIn .moving Reasons.empty)).link .dl0).presenceTimer = some ⟨3, 100⟩ ∧
      (claimIn .moving Reasons.empty).owner = .dl0 ∧ (claimIn .moving Reasons.empty).holdable = true ∧
      NumbersDistinct (presenting (claimIn .moving Reasons.empty))) ∧
      ((presenting (claimIn .retiring Reasons.empty)).elapse 97).claims.all (fun c => !c.holdable) = true ∧
      (HeldExactly (presenting { claimIn .moving Reasons.empty with owner := .dl1 }) ∧
        ∀ c ∈ ((presenting { claimIn .moving Reasons.empty with owner := .dl1 }).elapse 97).claims,
          c.owner ≠ .dl0 ∧ c.group = none ∧ c.reasons.group = false) ∧
      HoldDesk (holding (claimIn .held byOperator)) .dl1 ∧ (claimIn .held byOperator).holdable = true ∧
      NumbersDistinct (holding (claimIn .held byOperator)) ∧ HoldDesk (holding (claimIn .arrived Reasons.empty)) .dl0 ∧
      ∃ c ∈ (holding (claimIn .arrived Reasons.empty)).claims, c.holdable = false := by
  unfold HoldDesk NumbersDistinct HeldExactly; decide +kernel

theorem test_witness_AttentionClears :
    FullDesk tower .dl0 ∧ formOk (.clearAttention { sel := .named [0, 19], expected := some 0 }) = true ∧
      tower.attention.sequence.toNat = 0 ∧ formOk (.clearAttention { sel := .all, expected := some 65535 }) = true ∧
      65535 ≠ tower.attention.sequence.toNat ∧ (∀ k, some 128 = some k → 1 ≤ k ∧ k ≤ 128) := by
  unfold FullDesk
  refine ⟨by decide +kernel, by decide +kernel, by decide +kernel, by decide +kernel, by decide +kernel, ?_⟩
  intro k h; cases h; decide

/-- The tower with a keep-out above set 1, which a clearance of 1000 mm would meet. -/
def tight : State :=
  { tower with keepouts := Tab.put tower.keepouts 1 (some { region := { depthLo := 1000, depthHi := 1000, heightLo := 3000, heightHi := 3000 }, tag := none }) }

theorem test_witness_StatusAndParameters :
    ((tower.link .dl0).role ≠ .off ∧ (tower.link .dl0).priorityResponse = none) ∧
      FullDesk tower .dl0 ∧ OpenDesk tower .dl0 ∧ resolveParam { name := 1, which := none } = some .nearFull ∧
      Param.nearFull ≠ .clearance ∧ valueOk .nearFull 160 = true ∧
      resolveParam { name := 2, which := some 2 } = some (.weight .dl2) ∧ valueOk (.weight .dl2) 8 = true ∧
      resolveParam { name := 5, which := none } = some .drift ∧ valueOk .drift 5 = true ∧
      resolveParam { name := 6, which := some 1 } = some (.idleSlice .fb1) ∧ valueOk (.idleSlice .fb1) 16 = true ∧
      resolveParam { name := 7, which := some 0 } = some (.window .dl0) ∧ valueOk (.window .dl0) 1000 = true ∧
      resolveParam { name := 8, which := none } = some .mode ∧ valueOk .mode 1 = true ∧
      resolveParam { name := 9, which := some 19 } = some (.routing 19) ∧ valueOk (.routing 19) 0 = true ∧
      resolveParam { name := 10, which := some 0 } = some (.enable 0) ∧ valueOk (.enable 0) 1 = true ∧
      resolveParam { name := 4, which := none } = some .served := by unfold FullDesk OpenDesk; decide +kernel

theorem test_witness_StatusAndParameters_obstacle :
    tight.clearanceObstacle 150 = none ∧ tight.clearanceObstacle 1000 = some { kind := .set, number := 1, basis := .region } := by
  decide +kernel

theorem test_witness_ClearanceSet :
    FullDesk tower .dl0 ∧ tower.claims = [] ∧ tower.clearanceObstacle 1000 = none ∧ waiting.claims ≠ [] ∧
      FullDesk waiting .dl0 := by unfold FullDesk; decide +kernel

theorem test_witness_ColumnOfASet :
    ((setupOf .fb0 1 1000).rig.lower : Int) ≤ 1000 ∧ (1000 : Int) ≤ ((setupOf .fb0 1 1000).rig.upper : Int) := by decide

theorem test_witness_RegionsOfASet :
    (setupOf .fb0 1 1000).rig.stopMode = .auto ∧
      ({ rigOf .fb0 1 1000 with stopMode := .fixed, fixedAllowance := some 2000 } : RigEntry).stopMode = .fixed := by decide

theorem test_witness_RegionChecker :
    (Tab.record? keptOut.keepouts 16).isSome = true ∧
      (Tab.record? keptOut.keepouts 16).any (fun k =>
        ({ depthLo := 20100, depthHi := 20100, heightLo := 100, heightHi := 100 } : Region).conflicts k.region) = true ∧
      Tab.record? keptOut.keepouts 15 = none := by decide +kernel

/-! ### Stops and holds -/

/-- A state with another stop record. -/
def stopped (s : State) (st : StopState) (a b : Bool) : State := { s with stop := { s.stop with state := st, channelA := a, channelB := b } }

theorem test_witness_StopTaken :
    (HoldDesk tower .dl1 ∧ tower.stop.state ≠ .stopped ∧ tower.stop.channelA = false ∧ tower.stop.channelB = false) ∧
      HoldDesk (stopped tower .stopped true false) .dl1 ∧ (stopped tower .stopped true false).stop.state = .stopped := by
  unfold HoldDesk; decide +kernel

theorem test_witness_StopEntered :
    NumbersDistinct (holding (claimIn .moving Reasons.empty)) ∧ WaitExists waiting ∧
      ¬ WaitExists (holding (claimIn .moving Reasons.empty)) := by
  refine ⟨(holding_lawful .moving Reasons.empty (by decide)).1, Or.inl (by decide +kernel), ?_⟩
  rintro (h | ⟨g, x, hx, _⟩)
  · revert h; decide +kernel
  · have h0 : (holding (claimIn .moving Reasons.empty)).group? g = none := by
      simp only [State.group?, Tab.record?, Tab.get?, holding, tower, State.reset, State.coldReset]
      split
      · rfl
      · simp only [Vector.getElem?_replicate]
        split <;> rfl
    rw [h0] at hx
    cases hx

theorem test_witness_ChannelEvents :
    tower.stop.channel .a = false ∧ (tower.stop.channelA ≠ true ∧ tower.stop.state ≠ .stopped) ∧ tower.stop.channelB ≠ true ∧
      ((stopped tower .stopped true false).stop.channelA ≠ false ∧ (stopped tower .stopped true false).stop.state = .stopped) ∧
      (stopped tower .stopped true false).stop.channelB ≠ true := by decide +kernel

theorem test_witness_ReleaseAllTaken :
    FullDesk (holding (claimIn .held byOperator)) .dl0 ∧ ClaimLaws (holding (claimIn .held byOperator)) ∧
      Leaves (holding (claimIn .held byOperator)) (claimIn .held byOperator) Reasons.empty ∧
      { byOperator with all := false, operator := false } = Reasons.empty := by
  refine ⟨by unfold FullDesk; decide +kernel, holding_lawful _ _ (by decide), ?_, rfl⟩
  unfold Leaves; decide +kernel

theorem test_witness_ResumeTaken :
    (FullDesk (stopped (holding (claimIn .held byStop)) .latched false false) .dl0 ∧
      (stopped (holding (claimIn .held byStop)) .latched false false).stop.state = .latched ∧
      ClaimLaws (stopped (holding (claimIn .held byStop)) .latched false false) ∧
      ∃ c ∈ (stopped (holding (claimIn .held byStop)) .latched false false).claims,
        c.state = .held ∧ c.reasons.estop = true) ∧
      (stopped tower .stopped true false).stop.state = .stopped ∧ tower.stop.state = .run := by
  refine ⟨⟨by unfold FullDesk; decide +kernel, by decide +kernel, ?_, by decide +kernel⟩, by decide +kernel, by decide +kernel⟩
  exact claimLaws_of_noGroups _ rfl (by decide +kernel) (by decide +kernel) (by decide +kernel) (by decide +kernel)
    (by decide +kernel)

/-! ### Claims -/

theorem test_witness_ClaimGranted :
    FullDesk tower .dl0 ∧ formOk (.claim claimReq) = true ∧ tower.claimCheck .dl0 claimReq = none ∧
      tower.freeClaim = some 1 ∧ claimReq.group = none ∧ tower.isNullMove claimReq = false ∧
      (tower.grantPlan (claimRecord claimReq .dl0 1) (claimRecord claimReq .dl0 1).speed).isSome = true := by
  unfold FullDesk; decide +kernel

/-- A null move of set 1. -/
def nullReq (keep : Bool) : ClaimReq := { claimReq with first := 2005, keep := keep }

/-- The tower with hold-all on. -/
def allHeld : State := { tower with stop := { tower.stop with holdAll := true } }

theorem test_witness_ClaimNotGranted :
    (tower.claimCheck .dl0 (nullReq false) = none ∧ tower.isNullMove (nullReq false) = true ∧
      tower.isNullMove (nullReq true) = true) ∧
    ((grouped .forming [] 2).claimCheck .dl0 { claimReq with group := some 24 } = none ∧
      ((grouped .forming [] 2).group? 24).any (fun x => decide (x.members.length + 1 ≠ x.expected)) = true) ∧
    ((grouped .forming [] 1).claimCheck .dl0 { claimReq with group := some 24 } = none ∧
      ((grouped .forming [] 1).group? 24).any (fun x => decide (x.members.length + 1 = x.expected)) = true) ∧
    FullDesk allHeld .dl0 ∧ formOk (.claim { claimReq with waitAllowed := false }) = true ∧
    allHeld.claimCheck .dl0 claimReq = none ∧ allHeld.freeClaim = some 1 ∧ allHeld.isNullMove claimReq = false ∧
    allHeld.grantPlan (claimRecord claimReq .dl0 1) (claimRecord claimReq .dl0 1).speed = none := by
  unfold FullDesk; decide +kernel

/-- Bonds are lawful where the checks pass on bonds 1 to 16 and sets 1 to 128. -/
theorem bondsLawful_of (s : State)
    (hb : ∀ b ∈ Tab.numbers 16, ∀ x ∈ s.bond? b, 2 ≤ x.members.length ∧ x.members.length ≤ 4 ∧ x.members.Pairwise (· < ·) ∧
      ∀ n ∈ x.members, (s.setRec n).setup ≠ none ∧ (s.setRec n).bond = some b)
    (hs : ∀ n ∈ Tab.numbers 128, ∀ b ∈ (s.setRec n).bond, ∃ x, s.bond? b = some x ∧ n ∈ x.members) : BondsLawful s := by
  refine ⟨bond?_forall s hb, fun n b h => ?_⟩
  exact setRec_forall (P := fun n r => r.bond = some b → ∃ x, s.bond? b = some x ∧ n ∈ x.members) s
    (fun n h => by cases h) (fun n hn h => hs n hn b h) n h

theorem tower_bonds : BondsLawful tower := by
  apply bondsLawful_of
  · decide +kernel
  · have h : ∀ n ∈ Tab.numbers 128, (tower.setRec n).bond = none := by decide +kernel
    intro n hn b hb
    rw [h n hn] at hb
    cases hb

theorem bonded_bonds : BondsLawful bonded := by
  apply bondsLawful_of
  · decide +kernel
  · have h : ∀ n ∈ Tab.numbers 128, ∀ b ∈ (bonded.setRec n).bond, (bonded.bond? b).any (fun x => decide (n ∈ x.members)) = true := by
      decide +kernel
    intro n hn b hb
    have := h n hn b hb
    cases e : bonded.bond? b with
    | none => rw [e] at this; cases this
    | some x => rw [e] at this; exact ⟨x, rfl, by simpa using this⟩

/-- The checks of R46 on values. -/
def passes (s : State) (l : Link) (q : ClaimReq) (k : Nat) : Bool :=
  match k with
  | 1 => match q.mover with
    | .set n => (s.setRec n).setup.isSome
    | .bond b => (s.bond? b).isSome
  | 2 => match q.mover with
    | .set n => (s.setRec n).bond.isNone
    | .bond _ => true
  | 3 => (s.members q.mover).all fun n => decide ((s.setRec n).state ≠ .dark ∧ (s.setRec n).state ≠ .barred)
  | 4 => s.claims.all fun c => decide (c.mover ≠ q.mover)
  | 5 => (s.members q.mover).all fun n => (s.setRec n).setup.all fun u => decide ((s.bus u.rig.segment).state ≠ .loop)
  | 6 => !decide (q.kind = .move) || (s.members q.mover).all fun n => (s.setRec n).setup.any fun u =>
      decide ((u.rig.lower : Int) ≤ memberTarget s q n ∧ memberTarget s q n ≤ (u.rig.upper : Int))
  | 7 => !decide (q.kind = .move) || (s.members q.mover).all fun n => (s.setRec n).setup.all fun u => decide (q.second ≤ u.rig.rated)
  | 8 => q.group.all fun g => (s.group? g).any fun x => (s.members q.mover).head?.any fun n => (s.setRec n).setup.any fun u =>
      decide ((x.state = .forming ∧ x.owner = l ∧ x.cls = q.cls ∧ q.kind = .move ∧ q.waitLimit = none) ∧
        u.rig.arrivalTol < ((q.first : Int) - s.restOf n).natAbs)
  | 9 => (Tab.numbers 160).any fun n => (s.claim? n).isNone
  | _ => true

/-- They are those of the statement. -/
theorem checkPasses_iff (s : State) (l : Link) (q : ClaimReq) (k : Nat) : CheckPasses s l q k ↔ passes s l q k = true := by
  unfold CheckPasses passes
  split
  · generalize q.mover = m
    cases m <;> simp [Option.ne_none_iff_isSome]
  · generalize q.mover = m
    cases m <;> simp
  · simp
  · simp
  · simp [Option.all_eq_true]
  · simp [Option.any_eq_true, imp_iff_not_or]
  · simp [Option.all_eq_true, imp_iff_not_or]
  · simp only [Option.all_eq_true, Option.any_eq_true, decide_eq_true_eq]
    constructor
    · intro h g hg
      obtain ⟨x, n, u, h1, h2, h3, h4, h5⟩ := h g hg
      exact ⟨x, h1, n, h3, u, h4, h2, h5⟩
    · intro h g hg
      obtain ⟨x, h1, n, h3, u, h4, h2, h5⟩ := h g hg
      exact ⟨x, n, u, h1, h2, h3, h4, h5⟩
  · simp [Tab.mem_numbers, and_assoc]
  · simp

/-- Check `k` is the first that fails. -/
def firstFails (s : State) (q : ClaimReq) (k : Nat) : Bool := (List.range k).all (passes s .dl0 q) && !passes s .dl0 q k

theorem first_of_firstFails {s : State} {q : ClaimReq} {k : Nat} (h : firstFails s q k = true) :
    (∀ j, j < k → CheckPasses s .dl0 q j) ∧ ¬ CheckPasses s .dl0 q k := by
  simp only [firstFails, Bool.and_eq_true, List.all_eq_true, List.mem_range, Bool.not_eq_true'] at h
  refine ⟨fun j hj => (checkPasses_iff ..).mpr (h.1 j hj), fun hk => ?_⟩
  rw [(checkPasses_iff ..).mp hk] at h
  cases h.2

/-- The tower with FB0 in LOOP. -/
def inLoop : State := { tower with buses := tower.buses.put .fb0 { tower.buses.fb0 with state := .loop } }

/-- The tower with every claim number in use. -/
def tableFull : State :=
  { tower with claims := (Tab.numbers 160).map fun n => { claimIn .retiring Reasons.empty with number := n, mover := .set 128 } }

theorem test_witness_ChecksOfRequests :
    FullDesk tower .dl0 ∧ formOk (.claim { claimReq with mover := .set 128 }) = true ∧
      tower.claimCheck .dl0 { claimReq with mover := .set 128 } = some .setVacant ∧
      (∀ k, k < 10 → CheckPasses tower .dl0 claimReq k) ∧ BondsLawful tower ∧ BondsLawful bonded := by
  refine ⟨by unfold FullDesk; decide +kernel, by decide +kernel, by decide +kernel, fun k hk => ?_, tower_bonds, bonded_bonds⟩
  have h : ∀ k ∈ List.range 10, passes tower .dl0 claimReq k = true := by decide +kernel
  exact (checkPasses_iff ..).mpr (h k (List.mem_range.mpr hk))

theorem test_witness_ChecksOfRequests_first :
    (firstFails tower { claimReq with mover := .set 128 } 1 = true ∧ firstFails tower { claimReq with mover := .bond 16 } 1 = true) ∧
      firstFails bonded claimReq 2 = true ∧
      (firstFails tower { claimReq with mover := .set 4 } 3 = true ∧ firstFails tower { claimReq with mover := .set 3 } 3 = true) ∧
      firstFails waiting claimReq 4 = true ∧ firstFails inLoop claimReq 5 = true ∧
      (firstFails tower { claimReq with first := 18001 } 6 = true ∧ firstFails tower { claimReq with first := 999 } 6 = true) ∧
      firstFails tower { claimReq with second := 1201 } 7 = true ∧
      (firstFails tower { claimReq with group := some 24 } 8 = true ∧
        firstFails (grouped .granted [2] 2) { claimReq with group := some 24 } 8 = true ∧
        firstFails (grouped .forming [] 2) { claimReq with group := some 24, first := 2005 } 8 = true ∧
        firstFails (grouped .forming [] 2) { claimReq with group := some 24, first := 2006 } 8 = false) ∧
      firstFails tableFull claimReq 9 = true := by decide +kernel

theorem test_witness_ChecksOfRequests_forms :
    formOk (.listClaims { start := 160, owner := some 2 }) = true ∧ formOk (.listClaims { start := 161, owner := none }) = false ∧
      formOk (.claim { claimReq with waitAllowed := false, waitLimit := some 600 }) = false ∧
      formOk (.setParameter { name := 3, which := none } 0) = false ∧ formOk (.readParameter { name := 3, which := none }) = true ∧
      formOk (.configureSet { configureReq with stopMode := .fixed }) = false := by decide +kernel

theorem test_witness_ChecksOfRequests_retarget :
    ((holding (claimIn .moving Reasons.empty)).members (claimIn .moving Reasons.empty).mover).head? = some 1 ∧
      ((holding (claimIn .moving Reasons.empty)).setRec 1).setup = some (setupOf .fb0 1 1000) := by decide +kernel

/-- A RETARGET of claim 1. -/
def retargetReq (target : Nat) : RetargetReq := { claim := 1, target := target, speed := none }

/-- The span a RETARGET of a moving claim to `target` would take. -/
def newSpan (s : State) (target : Nat) : Option Region :=
  s.sweptSpan 1000 (s.lastPositions (.set 1)) (targetsFrom [(1, 2000)] target)

theorem test_witness_RetargetTaken :
    FullDesk (holding (claimIn .moving Reasons.empty)) .dl0 ∧ formOk (.retarget (retargetReq 18001)) = true ∧
      (holding (claimIn .moving Reasons.empty)).claim? 1 = some (claimIn .moving Reasons.empty) ∧
      (claimIn .moving Reasons.empty).owner = .dl0 ∧
      (holding (claimIn .moving Reasons.empty)).retargetCheck (claimIn .moving Reasons.empty) (retargetReq 18001) = some .trim ∧
      (waiting.claim? 1).any (fun c => decide (c.state = .waiting) &&
        decide (waiting.retargetCheck c (retargetReq 18000) = none)) = true ∧
      (holding (claimIn .moving Reasons.empty)).retargetCheck (claimIn .moving Reasons.empty) (retargetReq 18000) = none ∧
      (holding (claimIn .moving Reasons.empty)).arrivedCheck (claimIn .moving Reasons.empty) = none ∧
      (newSpan (holding (claimIn .moving Reasons.empty)) 18000).any (fun n => (claimIn .moving Reasons.empty).span.any fun o =>
        decide ((holding (claimIn .moving Reasons.empty)).spanRefusal (claimIn .moving Reasons.empty) n o = none)) = true := by
  unfold FullDesk; decide +kernel

theorem test_witness_RetargetTaken_laws : ClaimLaws (holding (claimIn .moving Reasons.empty)) ∧
    ClaimLaws (holding (claimIn .held byOperator)) ∧ byOperator.column = false :=
  ⟨holding_lawful _ _ (by decide), holding_lawful _ _ (by decide), rfl⟩

/-- A keep-out across the way of set 1. -/
def blocked : State :=
  { holding (claimIn .moving Reasons.empty) with keepouts := Tab.put tower.keepouts 1 (some { region := { depthLo := 1000, depthHi := 1000, heightLo := 15000, heightHi := 15000 }, tag := none }) }

theorem test_witness_RetargetTaken_refused :
    (newSpan blocked 18000).any (fun n => (claimIn .moving Reasons.empty).span.any fun o =>
      (blocked.spanRefusal (claimIn .moving Reasons.empty) n o).isSome) = true := by decide +kernel

theorem test_witness_RetireTaken :
    (FullDesk (holding (claimIn .held byOperator)) .dl0 ∧ (claimIn .held byOperator).holdable = true) ∧
      (waiting.claim? 1).any (fun c => decide (c.state = .waiting) && c.group.isNone) = true ∧
      ((claimIn .arrived Reasons.empty).state = .arrived ∧ (claimIn .faulted Reasons.empty).state = .faulted ∧
        ∀ d ∈ (holding (claimIn .faulted Reasons.empty)).claims, d.state ≠ .waiting) ∧
      ((holding (claimIn .arrived Reasons.empty)).setRec 1).lastReport.map Report.position = some 2000 ∧
      (claimIn .retiring Reasons.empty).state = .retiring := by unfold FullDesk; decide +kernel

theorem test_witness_HoldClaimTaken :
    HoldDesk (holding (claimIn .granted Reasons.empty)) .dl1 ∧
      ((holding (claimIn .granted Reasons.empty)).claim? 1).any (fun c => c.holdable) = true ∧
      (holding (claimIn .granted Reasons.empty)).claim? 160 = none ∧
      ((holding (claimIn .arrived Reasons.empty)).claim? 1).any (fun c => !c.holdable) = true := by
  unfold HoldDesk; decide +kernel

/-- Two claims, the second of them on set 2 and untouched by the first. -/
def pair : State :=
  { holding (claimIn .held byOperator) with
    claims := [claimIn .held byOperator, { claimIn .granted Reasons.empty with number := 2, mover := .set 2 }] }

theorem test_witness_ReleaseClaimTaken :
    FullDesk pair .dl0 ∧ (pair.claim? 1).any (fun c => decide (c.owner = .dl0) && decide (c.state = .held)) = true ∧
      Leaves (holding (claimIn .held byOperator)) (claimIn .held byOperator) { byOperator with operator := false } ∧
      HeldExactly pair ∧ Bystander pair 1 { claimIn .granted Reasons.empty with number := 2, mover := .set 2 } := by
  refine ⟨by unfold FullDesk; decide +kernel, by decide +kernel, ?_, ?_, ?_⟩
  · unfold Leaves; decide +kernel
  · unfold HeldExactly; decide +kernel
  · unfold Bystander; decide +kernel

theorem test_witness_AdoptTaken :
    FullDesk (linked .dl2 { full with presence := .lost }) .dl0 ∧
      ((linked .dl2 { full with presence := .lost }).link .dl2).presence = .lost ∧ Link.dl2 ≠ Link.dl0 ∧
      (tower.link .dl2).presence ≠ .lost := by unfold FullDesk; decide +kernel

theorem test_witness_AdoptTaken_loss :
    FullDesk lostDesk .dl1 ∧ (lostDesk.link .dl0).presence = .lost ∧ ClaimLaws lostDesk ∧
      ∃ c ∈ lostDesk.claims, c.owner = .dl0 ∧ c.state = .held ∧ c.reasons.deskLost = true :=
  ⟨by unfold FullDesk; decide +kernel, test_witness_LostDeskReturns.2.2.1, test_witness_LostDeskReturns.2.2.2.1,
    test_witness_LostDeskReturns.2.2.2.2⟩

theorem test_witness_WarmRestartTaken :
    (FullDesk (holding (claimIn .retiring Reasons.empty)) .dl0 ∧
      ∃ c ∈ (holding (claimIn .retiring Reasons.empty)).claims, c.holdable = true ∨ c.state = .retiring) ∧
      FullDesk (holding (claimIn .faulted Reasons.empty)) .dl0 ∧
      ∀ c ∈ (holding (claimIn .faulted Reasons.empty)).claims, c.holdable = false ∧ c.state ≠ .retiring := by
  unfold FullDesk; decide +kernel

/-! ### Keep-outs, groups, sets and bonds -/

/-- An ADD KEEPOUT upstage of every set. -/
def keepoutReq : KeepoutReq := { depthLo := 20200, depthHi := 32767, heightLo := -32768, heightHi := 0, tag := none }

theorem test_witness_KeepoutsAddedAndRetired :
    FullDesk keptOut .dl0 ∧ formOk (.addKeepout keepoutReq) = true ∧
      keptOut.obstacle [] { depthLo := 20200, depthHi := 32767, heightLo := -32768, heightHi := 0 } = none ∧
      (keptOut.obstacle [] { depthLo := 20100, depthHi := 20100, heightLo := 0, heightHi := 0 }).isSome = true ∧
      Tab.record? keptOut.keepouts 1 = none := by unfold FullDesk; decide +kernel

theorem test_witness_GroupsOpenedClosedCancelled :
    FullDesk tower .dl0 ∧ formOk (.openGroup { cls := .forShow, sync := true, expected := 12, waitLimit := some 600 }) = true ∧
      tower.group? 1 = none ∧
      ((grouped .forming [1, 2] 3).group? 24).any (fun x => decide (x.owner = .dl0) && decide (x.state = .forming) &&
        decide (2 ≤ x.members.length)) = true ∧
      ((grouped .forming [1] 3).group? 24).any (fun x => decide (x.members.length < 2)) = true ∧
      ((grouped .granted [1] 3).group? 24).any (fun x => decide (x.state = .granted) && decide (x.owner ≠ .dl1)) = true := by
  unfold FullDesk; decide +kernel

theorem test_witness_ConfigureSetTaken :
    FullDesk tower .dl0 ∧ formOk (.configureSet { configureReq with set := 128, address := 64 }) = true ∧
      tower.configureCheck { configureReq with set := 128, address := 64 } = none ∧
      tower.configureCheck { configureReq with address := 1 } = some .malformed ∧
      (tower.setRec 128).setup = none := by unfold FullDesk; decide +kernel

theorem test_witness_ReleaseAndRehang :
    FullDesk tower .dl0 ∧ tower.releaseCheck 128 = some .setVacant ∧ tower.releaseCheck 1 = none ∧
      formOk (.rehang { set := 1, hang := hang }) = true ∧ tower.rehangCheck { set := 3, hang := hang } ≠ none ∧
      tower.rehangCheck { set := 1, hang := hang } = none := by unfold FullDesk; decide +kernel

theorem test_witness_LocksAndReinstate :
    FullDesk tower .dl0 ∧ (tower.setRec 1).setup ≠ none ∧ (tower.setRec 128).setup = none ∧ (tower.setRec 3).state = .barred ∧
      (tower.setRec 1).state ≠ .barred := by unfold FullDesk; decide +kernel

/-- A BIND of sets 1 and 2. -/
def bindReq : BindReq := { sets := [2, 1], skew := some 200 }

theorem test_witness_BondsMadeAndFreed :
    FullDesk tower .dl0 ∧ formOk (.bind bindReq) = true ∧ (List.range' 1 128).filter (fun n => decide (n ∈ bindReq.sets)) = [1, 2] ∧
      tower.bindCheck [1, 2] = none ∧ (tower.restingAt [1, 2] tower.restOf).any (tower.fits [.set 1, .set 2]) = true ∧
      tower.bond? 1 = none ∧ tower.bindCheck [1, 3] = some .setBarred ∧
      (bonded.bond? 16).any (fun x => (bonded.unbindCheck x).isNone) = true ∧ bonded.bond? 1 = none := by
  unfold FullDesk; decide +kernel

/-- A keep-out between sets 1 and 2. -/
def between12 : State :=
  { tower with keepouts := Tab.put tower.keepouts 1 (some { region := { depthLo := 3000, depthHi := 3000, heightLo := 2000, heightHi := 2000 }, tag := none }) }

theorem test_witness_BondsMadeAndFreed_conflict :
    between12.bindCheck [1, 2] = none ∧
      (between12.restingAt [1, 2] between12.restOf).any (fun c => (between12.obstacle [.set 1, .set 2] c).isSome) = true := by
  decide +kernel

/-! ### The fly bus -/

theorem test_witness_PollBuilt :
    ((tower.bus .fb0).state = .polling ∧ (tower.bus .fb0).poll = none ∧ (tower.bus .fb0).round = none ∧
      (tower.bus .fb0).configured ≠ [] ∧ 1 ≤ (tower.bus .fb0).idleSlice) ∧
      (tower.nextStation (tower.bus .fb0)).any (fun x => (((tower.bus .fb0).station x.address).set).isSome) = true ∧
      (tower.bus .fb1).state ≠ .polling := by decide +kernel

/-- The tower with a poll of set `n` at address `n` in progress. -/
def polling (n : Nat) (k : BusCommand) (orphaned : Bool) : State :=
  { tower with buses := tower.buses.put .fb0 { tower.buses.fb0 with
      poll := some { address := n, set := n, content := { command := k, target := 0, cap := 0 }, toggle := false
                     idlePart := true, orphaned := orphaned, sent := [] } } }

/-- An ordinary report of station `n` with a check byte. -/
def reportOf (n : Byte) (check : Byte) : WireReport := .ordinary n false 0 1#8 2000 0 300 check

/-- The same with the right check byte. -/
def goodReport (n : Byte) : WireReport := reportOf n (crc8 (reportData (reportOf n 0)))

/-- An IDENT report of station `n`. -/
def goodIdent (n : Byte) : WireReport := .ident n false 0 n 77 (crc8 (reportData (.ident n false 0 n 77 0)))

theorem test_witness_PollMissed :
    ((polling 1 .stay false).bus .fb0).state = .polling ∧
      (((polling 1 .stay false).bus .fb0).poll.any fun p => !p.orphaned && decide (p.address = 1) &&
        decide (reportMiss p (reportOf 1 (crc8 (reportData (reportOf 1 0)) + 1)) = some .badCheck)) = true ∧
      (((polling 1 .stay false).bus .fb0).station 1).missCount = 2 ∧ (tower.setRec 1).state = .resting ∧
      tower.liveClaim (tower.moverOf 1) = none ∧
      ((holding (claimIn .moving Reasons.empty)).liveClaim (.set 1)).any (fun c => decide (c.state ≠ .faulted)) = true := by
  decide +kernel

/-- The same poll with the station's first miss, of a set of a live claim. -/
def pollingFirst : State :=
  { holding (claimIn .moving Reasons.empty) with
    buses := (polling 1 .stay false).buses.put .fb0 { (polling 1 .stay false).buses.fb0 with
      stations := Tab.put tower.buses.fb0.stations 1 { stationOf 1 with missCount := 0 } } }

theorem test_witness_PollMissed_first :
    (pollingFirst.bus .fb0).state = .polling ∧
      ((pollingFirst.bus .fb0).poll.any fun p => !p.orphaned && decide (p.address = 1) &&
        decide (reportMiss p (reportOf 2 (crc8 (reportData (reportOf 2 0)))) = some .wrongAddress) &&
        decide (reportMiss p (goodIdent 1) = some .wrongForm)) = true ∧
      ((pollingFirst.bus .fb0).station 1).missCount ≠ 2 ∧ pollingFirst.isLive 1 = true := by decide +kernel

theorem test_witness_ReportJudged :
    (((polling 1 .stay false).bus .fb0).poll.any fun p => decide (reportMiss p (goodReport 1) = none)) = true ∧
      (((polling 4 .identify false).bus .fb0).poll.any fun p => decide (reportMiss p (goodIdent 4) = none)) = true ∧
      (((polling 1 .stay true).bus .fb0).poll.any fun p => p.orphaned) = true ∧
      (pollingFirst.bus .fb0).poll.any (fun p => pollingFirst.isLive p.set && decide (reportMiss p (goodReport 1) = none)) = true ∧
      statusOf? 153#8 = none := by decide +kernel

/-- A controller in LOOP with one frame left, and with two. -/
def looping (left : List Nat) : State :=
  { tower with buses := tower.buses.put .fb0 { tower.buses.fb0 with
      state := .loop, loop := some { left := left, passed := 0, failed := 0, lowestFailed := none } } }

/-- FB0 in BROKEN. -/
def broken : State := { tower with buses := tower.buses.put .fb0 { tower.buses.fb0 with state := .broken } }

theorem test_witness_BreakAndLoop :
    (tower.bus .fb0).state = .polling ∧ (broken.bus .fb0).state = .broken ∧ (tower.bus .fb1).state ≠ .polling ∧
      FullDesk tower .dl0 ∧ tower.claims.any (fun c => c.live && tower.moverOn c.mover .fb0) = false ∧
      ((looping [64]).bus .fb0).loop = some { left := [64], passed := 0, failed := 0, lowestFailed := none } ∧
      ((looping [1, 64]).bus .fb0).loop = some { left := [1, 64], passed := 0, failed := 0, lowestFailed := none } := by
  unfold FullDesk; decide +kernel

/-- FB0 BROKEN, and a claim HELD with SEGMENT for it. -/
def brokenHeld : State :=
  { holding (claimIn .held { Reasons.empty with segment0 := true }) with
    buses := tower.buses.put .fb0 { tower.buses.fb0 with state := .broken } }

theorem test_witness_BreakAndLoop_holds :
    (((holding (claimIn .granted Reasons.empty)).bus .fb0).state = .polling ∧
      (holding (claimIn .granted Reasons.empty)).moverOn (.set 1) .fb0 = true ∧ (claimIn .granted Reasons.empty).holdable = true ∧
      NumbersDistinct (holding (claimIn .granted Reasons.empty)) ∧ (claimIn .faulted Reasons.empty).holdable = false) ∧
      (brokenHeld.bus .fb0).state = .broken ∧ ClaimLaws brokenHeld ∧
      ∃ c ∈ brokenHeld.claims, c.state = .held ∧ c.reasons.segment .fb0 = true := by
  refine ⟨by unfold NumbersDistinct; decide +kernel, by decide +kernel, ?_, by decide +kernel⟩
  exact claimLaws_of_noGroups _ rfl (by decide +kernel) (by decide +kernel) (by decide +kernel) (by decide +kernel)
    (by decide +kernel)

/-- A poll drives DE and its characters for 77 bit times. -/
theorem test_linesOfAPoll : ∃ t, exec (.pollBuild .fb0) tower = .next t ∧ (t.bus .fb0).de 76 = true ∧ (t.bus .fb0).de 77 = false ∧
    (t.bus .fb0).txd 0 = false ∧ (t.bus .fb0).txd 77 = true := ⟨_, rfl, by decide +kernel⟩

/-- A PRESENCE frame as ten-bit characters spells its two rows; a spacing stop bit makes it bad. -/
theorem test_deskFrameRows :
    deskFrameRows .dl0 ((frameBytes 1#8 [0#8, 5#8]).map deskChar) =
      [.deskFrameBegin .dl0 1#8, .deskFrameEnd .dl0 (frameBytes 1#8 [0#8, 5#8]).tail false] ∧
    deskFrameRows .dl0 [deskChar 1#8, 0x102#10] = [.deskFrameBegin .dl0 1#8, .deskFrameEnd .dl0 [0x81#8] true] ∧
    deskChar 1#8 = 0b1000000010#10 := by decide +kernel

/-! ### Hand-offs -/

/-- A report at 2000 mm. -/
def report : Report := { status := .ready, position := 2000, velocity := 0, load := 300 }

/-- A state with hand-offs about set `n` waiting on FB0. -/
def handing (s : State) (n : Nat) : State :=
  { s with buses := s.buses.put .fb0 { s.buses.fb0 with
      outcomes := [{ set := n, cls := .miss, raw := none }], setReports := [{ set := n, report := report }]
      identReports := [{ set := n, commissioned := n }], freshNotices := [{ set := n, address := n, held := true }] } }

theorem test_witness_HandOffsTaken :
    (((handing tower 128).bus .fb0).outcomes ≠ [] ∧ ((handing tower 1).bus .fb0).setReports ≠ [] ∧
      ((handing tower 1).setRec 1).setup.isSome = true ∧ ((handing tower 1).bus .fb0).identReports ≠ [] ∧
      ((handing tower 1).bus .fb0).freshNotices ≠ []) ∧
      (((handing tower 1).setRec 1).state = .resting ∧ (handing tower 1).liveClaim ((handing tower 1).moverOf 1) = none) ∧
      (((handing tower 4).setRec 4).state = .dark ∧ ((handing tower 4).setRec 4).identityVerified = true) ∧
      ((handing tower 3).setRec 3).state = .barred ∧
      ((handing (holding (claimIn .moving Reasons.empty)) 1).liveClaim (.set 1)).isSome = true := by decide +kernel

/-- A poll outcome about claim 1 waiting on FB0. -/
def travelling (c : ClaimRec) (r : Option Report) : State :=
  { holding c with buses := tower.buses.put .fb0 { tower.buses.fb0 with
      tmOutcomes := [{ set := 1, address := 1, report := r, miss := if r.isNone then some .noAnswer else none, echo := false
                       toggle := false
                       content := { command := .go, target := 5000, cap := 1000 } }] } }

/-- The laws of such a state. -/
theorem travelling_lawful (st : ClaimState) (r : Option Report) (h : st ≠ .held) :
    ClaimLaws (travelling (claimIn st Reasons.empty) r) := by
  refine claimLaws_of_noGroups _ rfl ?_ ?_ ?_ ?_ ?_
  · simp [travelling, holding, claimIn, claimRecord]
  · simpa [travelling, holding, claimIn] using h
  · simp [travelling, holding, tower, State.reset, State.coldReset, StopRec.reset]
  · simp [travelling, holding, tower, State.reset, State.coldReset, State.resetPins, StopRec.reset]
  · simp [travelling, holding, claimIn, claimRecord, claimReq]

/-- Claim 1 as the report leaves it. -/
def positioned (st : ClaimState) : ClaimRec := (claimIn st Reasons.empty).positioned 1 { report with position := 5000 } true

theorem test_witness_TravelSupervised :
    (((travelling (claimIn .granted Reasons.empty) (some report)).bus .fb0).station 1).fresh = true ∧
      (travelling (claimIn .granted Reasons.empty) (some report)).liveClaim (.set 1) = some (claimIn .granted Reasons.empty) ∧
      (travelling (claimIn .granted Reasons.empty) (some report)).reportFault
        ((claimIn .granted Reasons.empty).positioned 1 report true) (setupOf .fb0 1 1000) report = none ∧
      (travelling (claimIn .granted Reasons.empty) (some report)).reportFault
        ((claimIn .granted Reasons.empty).positioned 1 report true) (setupOf .fb0 1 1000) { report with load := 4001 } = some .load ∧
      ((claimIn .granted Reasons.empty).counts 1 { command := .go, target := 5000, cap := 1000 } = true ∧
        (claimIn .granted Reasons.empty).marked 1 = false ∧ (claimIn .granted Reasons.empty).windowRuns = true ∧
        (∃ m ∈ (claimIn .granted Reasons.empty).supMembers, m.set = 1 ∧ 4 ≤ m.takeCount) ∧
        ∀ m ∈ (claimIn .granted Reasons.empty).supMembers, m.set ≠ 1 → m.takenMark = true) ∧
      (∀ m ∈ (positioned .moving).supMembers,
        (travelling (claimIn .moving Reasons.empty) (some report)).memberArrived (positioned .moving) m = true) ∧
      (∀ m ∈ (positioned .retiring).supMembers, m.restedFresh = true) ∧
      ((travelling (claimIn .faulted Reasons.empty) (some report)).liveClaim (.set 1)).all
        (fun c => decide (c.state = .faulted)) = true := by decide +kernel

theorem test_witness_TravelSupervised_laws (st : ClaimState) (h : st ≠ .held) :
    ClaimLaws (travelling (claimIn st Reasons.empty) (some report)) ∧ ClaimLaws (travelling (claimIn st Reasons.empty) none) :=
  ⟨travelling_lawful st _ h, travelling_lawful st _ h⟩

/-- Claim 1 with its stop window run out and a stall reference. -/
def watched (st : ClaimState) (r : Reasons) (ref : Option Nat) : ClaimRec :=
  { claimIn st r with sup := some { supOf with stopWindow := .runOut, members := supOf.members.map fun m => { m with stallRef := ref } } }

/-- A report on the way, at 2100 mm. -/
def underWay : Report := { status := .running, position := 2100, velocity := 300, load := 300 }

/-- A state without groups whose table passes the checks has the laws of the Group Table. -/
theorem groupLaws_of_noGroups (s : State) (h : ∀ c ∈ s.claims, c.group = none) : GroupLaws s :=
  ⟨fun c hc _ _ _ hg => (nomatch (h c hc).symm.trans hg), fun c hc _ hg => (nomatch (h c hc).symm.trans hg)⟩

theorem test_witness_TravelSupervised_stall :
    ClaimLaws (travelling (watched .moving Reasons.empty (some 2910)) (some underWay)) ∧
      GroupLaws (travelling (watched .moving Reasons.empty (some 2910)) (some underWay)) ∧
      (travelling (watched .moving Reasons.empty (some 2910)) (some underWay)).reportFault
        ((watched .moving Reasons.empty (some 2910)).positioned 1 underWay true) (setupOf .fb0 1 1000) underWay = none ∧
      ((travelling (watched .moving Reasons.empty (some 2910)) (some underWay)).setRec 1).state = .engaged ∧
      (∀ m ∈ ((watched .moving Reasons.empty (some 2910)).positioned 1 underWay true).supMembers,
        tower.memberArrived (watched .moving Reasons.empty (some 2910)) m = false ∧
        tower.progressed (watched .moving Reasons.empty (some 2910)) m = true) ∧
      ∀ m ∈ ((watched .moving Reasons.empty (some 2909)).positioned 1 underWay true).supMembers,
        tower.progressed (watched .moving Reasons.empty (some 2909)) m = false := by
  refine ⟨?_, groupLaws_of_noGroups _ (by decide +kernel), by decide +kernel, by decide +kernel, by decide +kernel, by decide +kernel⟩
  exact claimLaws_of_noGroups _ rfl (by decide +kernel) (by decide +kernel) (by decide +kernel) (by decide +kernel)
    (by decide +kernel)

/-- A MOVING claim's report waiting on FB0 with the station's flag cleared behind it and the notice of that waiting. -/
def overtaken (held : Bool) : State :=
  let c := (watched .moving Reasons.empty none).updSup fun x => x.updMember 1 fun m => { m with fresh := none }
  let s := travelling c (some underWay)
  s.updBus .fb0 fun b =>
    { b.putStation 1 { b.station 1 with fresh := false } with freshNotices := [{ set := 1, address := 1, held := held }] }

/-- The fresh reports of claim 1 after two rows. -/
def freshAfter (i j : Instr) (s : State) : Option (List (Option FreshReport)) :=
  match exec i s with
  | .next t =>
    match exec j t with
    | .next u => (u.claim? 1).map fun c => c.supMembers.map SupMember.fresh
    | _ => none
  | _ => none

/-- A report taken before the notice of the clearing fills the field, and the notice empties it; taken after it, it does not
fill it (R124). -/
theorem test_reportBeforeNotice :
    freshAfter (.tmPollOutcome .fb0) (.tmPollOutcome .fb0) (overtaken true) =
        some [some { status := .running, position := 2100, load := 300 }] ∧
      freshAfter (.tmPollOutcome .fb0) (.tmPollOutcome .fb0) (overtaken false) = some [none] ∧
      freshAfter (.tmPollOutcome .fb0) (.freshFlagClearedNotice .fb0) (overtaken true) = some [none] ∧
      freshAfter (.freshFlagClearedNotice .fb0) (.tmPollOutcome .fb0) (overtaken true) = some [none] := by decide +kernel

theorem test_witness_TravelSupervised_noStop :
    ClaimLaws (travelling (watched .held byOperator none) (some underWay)) ∧
      (watched .held byOperator none).sup.map Supervision.stopWindow = some .runOut ∧
      (((travelling (watched .held byOperator none) (some underWay)).bus .fb0).station 1).fresh = true ∧
      ((((overtaken true).bus .fb0).station 1).fresh = false ∧
        ∃ y ∈ ((overtaken true).bus .fb0).freshNotices, y.set = 1 ∧ y.address = 1 ∧ y.held = true) ∧
      (∃ m ∈ (watched .held byOperator none).supMembers, m.set = 1) ∧
      (travelling (watched .held byOperator none) (some underWay)).reportFault
        ((watched .held byOperator none).positioned 1 underWay true) (setupOf .fb0 1 1000) underWay = none := by
  refine ⟨?_, by decide +kernel, by decide +kernel, by decide +kernel, by decide +kernel, by decide +kernel⟩
  exact claimLaws_of_noGroups _ rfl (by decide +kernel) (by decide +kernel) (by decide +kernel) (by decide +kernel)
    (by decide +kernel)

/-! ### Timers and laws -/

theorem test_witness_TimersRunOut :
    ((claimIn .moving Reasons.empty).sup.bind Supervision.stall = some 7 ∧
      (holding (claimIn .moving Reasons.empty)).claim? 1 = some (claimIn .moving Reasons.empty)) ∧
      (claimIn .held byOperator).sup.map Supervision.stopWindow = some (.running 7) ∧
      (claimIn .moving Reasons.empty).sup.map Supervision.deadline = some (.running 7) ∧
      (waiting.claim? 1).any (fun c => decide (c.state = .waiting) && decide (c.waitTimer = some 3)) = true ∧
      ((grouped .ready [1, 2] 2).group? 24).any (fun x => decide (x.state = .ready) && decide (x.timer = some 3)) = true ∧
      ({ tower with stop := { tower.stop with discrepancy := some 50 } } : State).stop.discrepancy = some 50 := by
  decide +kernel

theorem test_witness_laws : ClaimLaws waiting ∧ ∃ t, step waiting = .next t := ⟨waiting_lawful, _, rfl⟩

/-! ### The arbiter and the groups -/

/-- The tower with claim 1 WAITING behind a keep-out. -/
def waitingBlocked : State :=
  { waiting with keepouts := Tab.put tower.keepouts 1 (some { region := { depthLo := 1000, depthHi := 1000, heightLo := 5000, heightHi := 5000 }, tag := none }) }

theorem test_witness_ArbiterAndGroupGrants :
    (tower.stop.state = .run ∧ allHeld.stop.holdAll = true ∧ ∀ l ∈ [Link.dl0, .dl1, .dl2], tower.queueOf l = []) ∧
      (waiting.stop.state = .run ∧ waiting.stop.holdAll = false ∧ waiting.queueOf .dl0 ≠ [] ∧
        (∀ l ∈ [Link.dl0, .dl1, .dl2], 1 ≤ waiting.weights.get l)) ∧
      ({ waiting with served := 4 } : State).weights.get .dl0 ≤ 4 ∧ waiting.served < waiting.weights.get waiting.pointer ∧
      waiting.turn.2 = true ∧ ({ waiting with pointer := .dl1 } : State).turn.2 = false ∧
      (∀ l ∈ [Link.dl0, .dl1, .dl2], ∀ e ∈ waitingBlocked.queueOf l, waitingBlocked.examine e = none) ∧
      waitingBlocked.queueOf .dl0 ≠ [] ∧ (waiting.examine (.claim 1)).isSome = true := by decide +kernel

theorem test_witness_ArbiterAndGroupGrants_grantable :
    SomeGrantable { waiting with pointer := .dl1 } ∧ ¬ SomeGrantable waitingBlocked ∧ NumbersDistinct waiting := by
  refine ⟨⟨.dl0, .claim 1, by decide +kernel, by decide +kernel, ?_⟩, ?_, waiting_lawful.1⟩
  · have h : (({ waiting with pointer := .dl1 } : State).examine (.claim 1)).isSome = true := by decide +kernel
    intro hn
    rw [hn] at h
    cases h
  · rintro ⟨l, e, _, he, hx⟩
    have h : ∀ l ∈ [Link.dl0, .dl1, .dl2], ∀ e ∈ waitingBlocked.queueOf l, waitingBlocked.examine e = none :=
      test_witness_ArbiterAndGroupGrants.2.2.2.2.2.2.1
    exact hx (h l (by cases l <;> decide) e he)

/-- Claim `n` on set `n`, a member of group 24, in a state and with its hold reasons. -/
def memberIn (n : Nat) (st : ClaimState) (r : Reasons) : ClaimRec :=
  { claimIn st r with number := n, mover := .set n, group := some 24, sup := some { supOf with members := supOf.members.map fun m => { m with set := n, address := n } } }

/-- The tower with claims 1 and 2 in group 24. -/
def paired (st : GroupState) (c d : ClaimRec) : State :=
  { tower with
    sets := Tab.put (Tab.put tower.sets 1 { setAt (setupOf .fb0 1 1000) (if st = .granted then .engaged else .resting) 2000 with claim := some 1 })
      2 { setAt (setupOf .fb0 2 5000) (if st = .granted then .engaged else .resting) 2000 with claim := some 2 }
    claims := [c, d], groups := Tab.put tower.groups 24 (some (groupOf st [1, 2] 2)) }

/-- A READY group of two members. -/
def readyPair : State := paired .ready (memberIn 1 .waiting Reasons.empty) (memberIn 2 .waiting Reasons.empty)

theorem test_witness_ArbiterAndGroupGrants_group :
    (readyPair.group? 24).isSome = true ∧ (readyPair.examine (.group 24)).isSome = true ∧
      (([1, 2].filterMap readyPair.claim?).map ClaimRec.number).Nodup ∧
      ∀ c ∈ [1, 2].filterMap readyPair.claim?, 1 ≤ c.requestedSpeed.getD 0 ∧ (readyPair.members c.mover).head? = some c.number ∧
        (readyPair.setRec c.number).setup.any (fun u => decide (u.rig.arrivalTol < leadGap readyPair c)) = true := by decide +kernel

/-- A granted pair that passes the checks has the laws of the Claim Table and of the Group Table. -/
theorem paired_lawful (c d : ClaimRec) (hc : c.number = 1 ∧ c.group = some 24) (hd : d.number = 2 ∧ d.group = some 24)
    (hw : ∀ x ∈ [c, d], x.state ≠ .waiting ∧ x.state ≠ .arrived ∧ (x.state = .held ↔ x.reasons ≠ Reasons.empty))
    (hs : (Stopping d → c.running = false) ∧ (Stopping c → d.running = false)) :
    ClaimLaws (paired .granted c d) ∧ GroupLaws (paired .granted c d) := by
  have hg : ∀ g, (paired .granted c d).group? g = if g = 24 then some (groupOf .granted [1, 2] 2) else none := by
    intro g
    have h := Tab.record?_put tower.groups 24 g (some (groupOf .granted [1, 2] 2))
    have h0 : Tab.record? tower.groups g = none := by
      simp only [Tab.record?, Tab.get?, tower, State.reset, State.coldReset]
      split
      · rfl
      · simp only [Vector.getElem?_replicate]
        split <;> rfl
    unfold State.group? paired
    rw [h, h0]
    simp
  have hm : ∀ x ∈ (paired .granted c d).claims, x = c ∨ x = d := by simp [paired]
  refine ⟨⟨⟨?_, ?_⟩, ?_, ?_, ?_, ?_, ?_⟩, ?_, ?_⟩
  · simp [paired, hc.1, hd.1]
  · simp [paired, hc.1, hd.1]
  · intro x hx
    exact (hw x (by simpa [paired] using hx)).2.2
  · intro x _
    constructor
    · intro h; exact absurd rfl h
    · intro h; cases h
  · constructor
    · intro _; exact ⟨rfl, rfl⟩
    · intro h; cases h
  · intro g x hx hn
    rw [hg] at hx
    split at hx
    · cases hx; exact absurd rfl hn
    · cases hx
  · intro x hx h
    exact absurd h (hw x (by simpa [paired] using hx)).1
  · intro x hx y hy g _ _ hne hst
    rcases hm x hx with rfl | rfl <;> rcases hm y hy with rfl | rfl
    · exact absurd rfl hne
    · exact hs.1 hst
    · exact hs.2 hst
    · exact absurd rfl hne
  · intro x hx g hgx
    have h24 : g = 24 := by
      rcases hm x hx with rfl | rfl
      · rw [hc.2] at hgx; exact (Option.some.inj hgx).symm
      · rw [hd.2] at hgx; exact (Option.some.inj hgx).symm
    have hn : x.number ∈ [1, 2] := by
      rcases hm x hx with rfl | rfl
      · simp [hc.1]
      · simp [hd.1]
    refine ⟨(hw x (by simpa [paired] using hx)).2.1, groupOf .granted [1, 2] 2, ?_, hn, ?_⟩
    · rw [hg, h24]; rfl
    · constructor
      · intro h; exact absurd h (hw x (by simpa [paired] using hx)).1
      · intro h; exact absurd rfl h

/-- Reasons with GROUP alone. -/
def byGroup : Reasons := { Reasons.empty with group := true }

/-- Two members moving; the second stopped by the first; both stopping; and the first released last. -/
theorem test_witness_GroupHolds :
    ((ClaimLaws (paired .granted (memberIn 1 .moving Reasons.empty) (memberIn 2 .granted Reasons.empty)) ∧
        GroupLaws (paired .granted (memberIn 1 .moving Reasons.empty) (memberIn 2 .granted Reasons.empty))) ∧
      HoldDesk (paired .granted (memberIn 1 .moving Reasons.empty) (memberIn 2 .granted Reasons.empty)) .dl2 ∧
      (memberIn 1 .moving Reasons.empty).holdable = true ∧ (memberIn 2 .granted Reasons.empty).running = true ∧
      (memberIn 1 .moving Reasons.empty).sup.bind Supervision.stall = some 7) ∧
    ((ClaimLaws (paired .granted (memberIn 1 .held byOperator) (memberIn 2 .faulted Reasons.empty)) ∧
        GroupLaws (paired .granted (memberIn 1 .held byOperator) (memberIn 2 .faulted Reasons.empty))) ∧
      FullDesk (paired .granted (memberIn 1 .held byOperator) (memberIn 2 .faulted Reasons.empty)) .dl0 ∧
      Stopping (memberIn 2 .faulted Reasons.empty) ∧ { byOperator with operator := false, group := false } = Reasons.empty) ∧
    ((ClaimLaws (paired .granted (memberIn 1 .held byOperator) (memberIn 2 .held byGroup)) ∧
        GroupLaws (paired .granted (memberIn 1 .held byOperator) (memberIn 2 .held byGroup))) ∧
      ¬ Stopping (memberIn 2 .held byGroup) ∧
      (paired .granted (memberIn 1 .held byOperator) (memberIn 2 .held byGroup)).spanMeetsColumn (memberIn 1 .held byOperator) = false ∧
      (paired .granted (memberIn 1 .held byOperator) (memberIn 2 .held byGroup)).spanMeetsColumn (memberIn 2 .held byGroup) = false) := by
  refine ⟨⟨paired_lawful _ _ (by decide) (by decide) (by decide) (by unfold Stopping; decide), ?_⟩,
    ⟨paired_lawful _ _ (by decide) (by decide) (by decide) (by unfold Stopping; decide), ?_⟩,
    ⟨paired_lawful _ _ (by decide) (by decide) (by decide) (by unfold Stopping; decide), ?_⟩⟩
  · unfold HoldDesk; decide +kernel
  · unfold FullDesk Stopping; decide +kernel
  · unfold Stopping; decide +kernel

theorem test_witness_SeparationKept_premise :
    tower.isNullMove claimReq = false ∧ (nullReq false).keep = false := by decide +kernel

/-- Without keep-outs, the air is separated where no two movers' committed regions conflict. -/
theorem separated_of_noKeepouts (s : State) (hk : s.keepouts = Vector.replicate 16 none)
    (h : ∀ m ∈ s.movers, ∀ k ∈ s.movers, m ≠ k →
      ((s.committed m).all fun a => (s.committed k).all fun b => !a.conflicts b) = true) : Separated s := by
  have h0 : ∀ n, Tab.record? s.keepouts n = none := by
    intro n
    simp only [Tab.record?, Tab.get?, hk]
    split
    · rfl
    · simp only [Vector.getElem?_replicate]
      split <;> rfl
  refine ⟨fun m hm k hk hne a b ha hb => by simpa [ha, hb] using h m hm k hk hne, fun m _ n x a hx => ?_, fun n k x y _ hx => ?_⟩
  · rw [h0] at hx
    cases hx
  · rw [h0] at hx
    cases hx

/-- The tower has the laws of the Claim Table, and its air is separated. -/
theorem test_witness_SeparationKept : ClaimLaws tower ∧ Separated tower :=
  ⟨claimLaws_of_noGroups _ rfl (by decide +kernel) (by decide +kernel) (by decide +kernel) (by decide +kernel) (by decide +kernel),
    separated_of_noKeepouts _ rfl (by decide +kernel)⟩

/-- The tower with claim 1 MOVING under its supervision record. -/
def flying : State := holding (claimIn .moving Reasons.empty)

theorem test_witness_SeparationKept_laws : AirLaws flying ∧ RestsInside flying := by
  refine ⟨⟨?_, ?_, ?_⟩, ?_, ?_⟩
  · apply bondsLawful_of
    · decide +kernel
    · have h : ∀ n ∈ Tab.numbers 128, (flying.setRec n).bond = none := by decide +kernel
      intro n hn b hb
      rw [h n hn] at hb
      cases hb
  · intro n
    refine setRec_forall (P := fun n r => (r.setup = none ↔ r.state = .vacant) ∧ (r.setup = none → r.bond = none ∧ r.claim = none) ∧
      (r.state = .resting ∨ r.state = .engaged → r.restPosition ≠ none ∧ r.lastReport ≠ none) ∧
      (r.setup ≠ none → (r.state = .engaged ↔ flying.liveClaim (flying.moverOf n) ≠ none) ∧
        r.claim = (flying.claimOf (flying.moverOf n)).map ClaimRec.number)) flying ?_ ?_ n
    · intro n
      simp [SetRec.vacant]
    · decide +kernel
  · have h : ∀ b ∈ Tab.numbers 16, flying.bond? b = none := by decide +kernel
    refine ⟨by decide +kernel, fun b x hx => ?_, ?_⟩
    · rw [h b ((Tab.mem_numbers 16 b).mpr (Tab.record?_range hx))] at hx
      cases hx
    · intro c hc
      have e : c = claimIn .moving Reasons.empty := by simpa [flying, holding] using hc
      subst e
      exact ⟨show (flying.setRec 1).setup ≠ none ∧ (flying.setRec 1).bond = none by decide +kernel,
        fun _ => ⟨by decide +kernel, supOf, rfl, by decide +kernel⟩⟩
  · intro c hc g hg n hn u hu
    have e : c = claimIn .moving Reasons.empty := by simpa [flying, holding] using hc
    subst e
    have hn1 : n = 1 := by
      have h : flying.members (claimIn .moving Reasons.empty).mover = [1] := by decide +kernel
      rw [h] at hn
      simpa using hn
    subst hn1
    have hu1 : (flying.setRec 1).setup = some (setupOf .fb0 1 1000) := by decide +kernel
    rw [hu1] at hu
    cases hu
    cases hg
    refine ⟨fun h => (by rcases h with h | h <;> cases h), fun _ m hm _ r hr => ?_⟩
    have hm1 : m.fresh = some { status := .ready, position := 5000, load := 300 } := by
      have h : (claimIn .moving Reasons.empty).supMembers = supOf.members := rfl
      rw [h] at hm
      simp only [supOf, List.mem_singleton] at hm
      rw [hm]
    rw [hm1] at hr
    cases hr
    decide +kernel
  · intro b x hx
    have h : ∀ b ∈ Tab.numbers 16, flying.bond? b = none := by decide +kernel
    rw [h b ((Tab.mem_numbers 16 b).mpr (Tab.record?_range hx))] at hx
    cases hx

/-- The state of that witness has the laws of the Claim Table, its air is separated, and a step of it answers. -/
theorem test_witness_SeparationKept_step : ClaimLaws flying ∧ Separated flying ∧ ∃ t, step flying = .next t :=
  ⟨holding_lawful _ _ (by decide), separated_of_noKeepouts _ rfl (by decide +kernel), _, rfl⟩

theorem test_witness_TowerLawsKept : TowerLaws State.reset ∧ ∃ t, step State.reset = .next t := by
  refine ⟨⟨⟨?_, ?_⟩, ?_, ?_⟩, _, rfl⟩
  · intro n u hu
    simp only [State.setRec, Tab.get?, State.reset, State.coldReset, Vector.getElem?_replicate] at hu
    split at hu
    · cases hu
    · split at hu <;> cases hu
  · intro f a n hn
    cases f <;>
    · simp only [State.bus, PerSegment.get, Bus.station, Bus.reset, Tab.get?, State.reset, State.coldReset,
        Vector.getElem?_replicate] at hn
      split at hn
      · cases hn
      · split at hn <;> cases hn
  · intro f
    cases f <;> decide +kernel
  · have h : List.replicate 3168 (0#8 : Byte) =
        (Tab.numbers 128).flatMap (fun n => digestSetImage (State.reset.setRec n).setup) ++
          (Tab.numbers 16).flatMap fun b => digestBondImage (State.reset.bond? b) := by decide +kernel
    exact congrArg crc32 h

theorem test_witness_BoundsKept : Bounds State.reset := by
  refine ⟨⟨by decide, by decide, ?_, by decide, by decide, ?_, ?_, ?_⟩, ?_, ?_⟩
  · intro l; cases l <;> decide
  · intro f; cases f <;> decide
  · intro l; cases l <;> decide
  · intro n
    simp only [AttentionRec.count, State.reset, State.coldReset, AttentionRec.reset, Vector.getElem?_replicate]
    split <;> simp
  · intro f a
    cases f <;>
    · simp only [State.bus, PerSegment.get, Bus.station, Bus.reset, Tab.get?, State.reset, State.coldReset,
        Vector.getElem?_replicate]
      split
      · decide
      · split <;> decide
  · intro l; cases l <;> (unfold LinkOk; decide)

end Sys2Proof.Tests
end

section
/-! SUPPORT. How a desk's request is taken: the owner's step on the records, and one response at the tail of the queue. -/

namespace Sys2Proof.Machine

/-! ## Reading a table that did not change -/

theorem setRec_congr {s t : State} (h : t.sets = s.sets) (n : Nat) : t.setRec n = s.setRec n := by rw [State.setRec, State.setRec, h]
theorem bond?_congr {s t : State} (h : t.bonds = s.bonds) (b : Nat) : t.bond? b = s.bond? b := by rw [State.bond?, State.bond?, h]
theorem bus_congr {s t : State} (h : t.buses = s.buses) (f : Segment) : t.bus f = s.bus f := by rw [State.bus, State.bus, h]
theorem link_congr {s t : State} (h : t.links = s.links) (l : Link) : t.link l = s.link l := by rw [State.link, State.link, h]
theorem faultSummary_congr {s t : State} (h : t.attention.faults = s.attention.faults) (n : Nat) :
    t.faultSummary n = s.faultSummary n := by rw [State.faultSummary, State.faultSummary, h]

/-! ## A regular request that can be taken -/

theorem FullDesk.openDesk {s : State} {l : Link} (h : FullDesk s l) : OpenDesk s l := ⟨by rw [h.1]; decide, h.2⟩

theorem canQueue_of_openDesk {s : State} {l : Link} (h : OpenDesk s l) : (s.link l).canQueue = true := by
  simp [LinkRec.canQueue, Config.queueDepth, h.1, h.2]

/-- A request the role permits, in good form, is taken by its owner and its reply queued. -/
theorem takeRegular_eq {s : State} {l : Link} {r : Request} (tag : Word16) (h : OpenDesk s l)
    (permitted : (s.link l).role.permits (kindOf r) = true) (form : formOk r = true) :
    takeRegular l tag r s = queueReply l (byteOf (kindOf r)) tag (serve l r s) := by
  simp [takeRegular, answer, canQueue_of_openDesk h, permitted, form]

/-- A FULL desk's request in good form. -/
theorem takeRegular_full {s : State} {l : Link} {r : Request} (tag : Word16) (h : FullDesk s l) (form : formOk r = true) :
    takeRegular l tag r s = queueReply l (byteOf (kindOf r)) tag (serve l r s) :=
  takeRegular_eq tag h.openDesk (by rw [h.1]; rfl) form

/-- A lookup in good form, which every role but OFF may send. -/
theorem takeRegular_lookup {s : State} {l : Link} {r : Request} (tag : Word16) (h : OpenDesk s l)
    (lookup : kindOf r ∈ lookupKinds) (form : formOk r = true) :
    takeRegular l tag r s = queueReply l (byteOf (kindOf r)) tag (serve l r s) := by
  refine takeRegular_eq tag h ?_ form
  have on := h.1
  cases e : (s.link l).role with
  | full => rfl
  | hold => simp [Role.permits, lookup]
  | lookup => simp [Role.permits, lookup]
  | off => exact absurd e on

/-! ## The response queued -/

theorem queueReply_frame (l : Link) (k : Byte) (tag : Word16) (p : State × Reply) :
    queueReply l k tag p = { p.1 with links := (queueReply l k tag p).links } := rfl

@[simp] theorem queueReply_setRec (l : Link) (k : Byte) (tag : Word16) (p : State × Reply) (n : Nat) :
    (queueReply l k tag p).setRec n = p.1.setRec n := rfl

@[simp] theorem queueReply_bond? (l : Link) (k : Byte) (tag : Word16) (p : State × Reply) (b : Nat) :
    (queueReply l k tag p).bond? b = p.1.bond? b := rfl

@[simp] theorem queueReply_bus (l : Link) (k : Byte) (tag : Word16) (p : State × Reply) (f : Segment) :
    (queueReply l k tag p).bus f = p.1.bus f := rfl

@[simp] theorem queueReply_faultSummary (l : Link) (k : Byte) (tag : Word16) (p : State × Reply) (n : Nat) :
    (queueReply l k tag p).faultSummary n = p.1.faultSummary n := rfl

/-- The reply to an owner's step that leaves the links alone. -/
theorem answered_queueReply {s u : State} (l : Link) (k : Nat) (tag : Word16) (y : Reply) (h : u.links = s.links) :
    Answered s (queueReply l (byteOf k) tag (u, y)) l k tag y := by
  unfold Answered
  rw [← h, ← link_congr h l]
  rfl

/-- The reply to an owner's step that leaves every record alone. -/
theorem answerOnly_queueReply (s : State) (l : Link) (k : Nat) (tag : Word16) (y : Reply) :
    AnswerOnly s (queueReply l (byteOf k) tag (s, y)) l k tag y :=
  ⟨rfl, answered_queueReply l k tag y rfl⟩

end Sys2Proof.Machine
end

section
/-! SUPPORT. What a step can do to the tables under the laws of the Set Registry and the fly bus controllers: TowerStep, its composition, and that it keeps those laws. -/

namespace Sys2Proof.Machine

/-! ## One controller -/

/-- The law of one controller's segment state (R99, R113). -/
structure SegmentLaw (b : Bus) : Prop where
  idle : b.state = .idle → b.configured = []
  busy : b.state = .polling ∨ b.state = .loop → b.configured ≠ []
  loop : b.loop.isSome = true → b.state = .loop

theorem segmentsLawful_iff (s : State) : SegmentsLawful s ↔ ∀ f, SegmentLaw (s.bus f) :=
  forall_congr' fun _ => ⟨fun ⟨i, b, l⟩ => ⟨i, b, l⟩, fun h => ⟨h.idle, h.busy, h.loop⟩⟩

/-- Every station is configured for the same set in both controllers. -/
def SameStations (b c : Bus) : Prop := ∀ a, (c.station a).set = (b.station a).set

theorem SameStations.configured {b c : Bus} (h : SameStations b c) : c.configured = b.configured := by
  unfold Bus.configured
  exact List.filter_congr fun a _ => by rw [h a]

theorem sameStations_putStation (b : Bus) (a : Nat) (x : Station) (h : x.set = (b.station a).set) :
    SameStations b (b.putStation a x) := by
  intro k
  rw [station_putStation]
  split
  · rename_i e
    rw [e.1, h]
  · rfl

theorem sameStations_clearFresh (b : Bus) : SameStations b b.clearFresh := fun a => by rw [station_clearFresh]

/-- A station of some address configured makes the list of configured stations not empty. -/
theorem configured_ne_nil {b : Bus} {a : Nat} (h : (b.station a).set.isSome = true) (r : 1 ≤ a ∧ a ≤ 64) : b.configured ≠ [] :=
  List.ne_nil_of_mem (List.mem_filter.2 ⟨(Tab.mem_numbers 64 a).2 r, h⟩)

/-- What a controller can do while its stations keep their sets: whatever keeps the law of its segment. -/
structure BusStep (b c : Bus) : Prop where
  stations : SameStations b c
  law : SegmentLaw b → SegmentLaw c

theorem BusStep.refl (b : Bus) : BusStep b b := ⟨fun _ => rfl, id⟩

theorem BusStep.trans {b c d : Bus} (h : BusStep b c) (k : BusStep c d) : BusStep b d :=
  ⟨fun a => (k.stations a).trans (h.stations a), fun l => k.law (h.law l)⟩

/-- A controller whose segment keeps its state, and that starts no loop test. -/
theorem BusStep.of_state {b c : Bus} (stations : SameStations b c) (state : c.state = b.state)
    (loop : c.loop.isSome = true → b.loop.isSome = true) : BusStep b c := by
  refine ⟨stations, fun l => ⟨fun i => ?_, fun i => ?_, fun i => ?_⟩⟩
  · rw [stations.configured]
    exact l.idle (state ▸ i)
  · rw [stations.configured]
    exact l.busy (state ▸ i)
  · rw [state]
    exact l.loop (loop i)

/-! ## One step of the tables -/

/-- What a step that moves no station and changes no hang does to the tables under the laws of the tower. -/
structure TowerStep (s t : State) : Prop where
  setups : ∀ n, (t.setRec n).setup = (s.setRec n).setup
  bonds : ∀ b, digestBondImage (t.bond? b) = digestBondImage (s.bond? b)
  digest : t.digest = s.digest
  buses : ∀ f, BusStep (s.bus f) (t.bus f)

theorem TowerStep.refl (s : State) : TowerStep s s := ⟨fun _ => rfl, fun _ => rfl, rfl, fun _ => BusStep.refl _⟩

theorem TowerStep.trans {s t u : State} (h : TowerStep s t) (k : TowerStep t u) : TowerStep s u :=
  ⟨fun n => (k.setups n).trans (h.setups n), fun b => (k.bonds b).trans (h.bonds b), k.digest.trans h.digest,
    fun f => (h.buses f).trans (k.buses f)⟩

/-- A step whose frame leaves out the four tables. -/
theorem TowerStep.of_frame {s t u : State} (h : t = u)
    (tables : (u.sets, u.bonds, u.digest, u.buses) = (s.sets, s.bonds, s.digest, s.buses)) : TowerStep s t := by
  simp only [Prod.mk.injEq] at tables
  obtain ⟨sets, bonds, digest, buses⟩ := tables
  subst h
  refine ⟨fun n => by rw [setRec_congr sets], fun b => by rw [bond?_congr bonds], digest, fun f => ?_⟩
  rw [bus_congr buses]
  exact BusStep.refl _

/-- A step of the set records alone that keeps every rig entry and hang. -/
theorem TowerStep.of_sets {s t : State} (h : t = { s with sets := t.sets })
    (setups : ∀ n, (t.setRec n).setup = (s.setRec n).setup) : TowerStep s t := by
  have bonds : t.bonds = s.bonds := by rw [h]
  have buses : t.buses = s.buses := by rw [h]
  refine ⟨setups, fun b => by rw [bond?_congr bonds], by rw [h], fun f => ?_⟩
  rw [bus_congr buses]
  exact BusStep.refl _

/-- A step of one controller. -/
theorem TowerStep.of_bus (s : State) (f : Segment) (g : Bus → Bus) (h : BusStep (s.bus f) (g (s.bus f))) :
    TowerStep s (s.updBus f g) := by
  refine ⟨fun _ => rfl, fun _ => rfl, rfl, fun k => ?_⟩
  rw [bus_updBus]
  split
  · rename_i e
    exact e ▸ h
  · exact BusStep.refl _

theorem foldl_tower {α : Type} (g : State → α → State) (h : ∀ s a, TowerStep s (g s a)) (as : List α) (s : State) :
    TowerStep s (as.foldl g s) := by
  induction as generalizing s with
  | nil => exact TowerStep.refl s
  | cons a as ih => exact (h s a).trans (ih _)

/-! ## The laws under a step -/

theorem hangDigest_congr {s t : State} (setups : ∀ n, (t.setRec n).setup = (s.setRec n).setup)
    (bonds : ∀ b, digestBondImage (t.bond? b) = digestBondImage (s.bond? b)) : t.hangDigest = s.hangDigest := by
  simp only [State.hangDigest, setups, bonds]

/-- Stations and rig entries agree where no rig entry changes and every station keeps its set. -/
theorem StationsKnown.of_rigs {s t : State} (h : StationsKnown s)
    (rigs : ∀ n, (t.setRec n).setup.map Setup.rig = (s.setRec n).setup.map Setup.rig)
    (stations : ∀ f, SameStations (s.bus f) (t.bus f)) : StationsKnown t := by
  obtain ⟨named, listed⟩ := h
  refine ⟨fun n u hu => ?_, fun f a n hn => ?_⟩
  · have e := rigs n
    rw [hu] at e
    obtain ⟨v, hv, ev⟩ := Option.map_eq_some_iff.1 e.symm
    rw [stations, ← ev]
    exact named n v hv
  · rw [stations] at hn
    obtain ⟨v, hv, ef, ea⟩ := listed f a n hn
    have e := rigs n
    rw [hv] at e
    obtain ⟨u, hu, eu⟩ := Option.map_eq_some_iff.1 e
    exact ⟨u, hu, by rw [eu, ef], by rw [eu, ea]⟩

theorem TowerLaws.step {s t : State} (h : TowerLaws s) (k : TowerStep s t) : TowerLaws t := by
  obtain ⟨known, lawful, current⟩ := h
  refine ⟨known.of_rigs (fun n => by rw [k.setups]) fun f => (k.buses f).stations, ?_, ?_⟩
  · rw [segmentsLawful_iff] at lawful ⊢
    exact fun f => (k.buses f).law (lawful f)
  · rw [DigestCurrent, k.digest, hangDigest_congr k.setups k.bonds]
    exact current

/-- No two configured sets name one station (R5, R98). -/
theorem StationsKnown.injective {s : State} (h : StationsKnown s) {n k : Nat} {u v : Setup} (hn : (s.setRec n).setup = some u)
    (hk : (s.setRec k).setup = some v) (segment : u.rig.segment = v.rig.segment) (address : u.rig.address = v.rig.address) :
    n = k := by
  have a := (h.1 n u hn).2.2
  rw [segment, address, (h.1 k v hk).2.2] at a
  exact (Option.some.inj a).symm

/-! ## The digest recomputed -/

@[simp] theorem redigest_setRec (s : State) (n : Nat) : s.redigest.setRec n = s.setRec n := by rw [redigest_frame]; rfl
@[simp] theorem redigest_bond? (s : State) (b : Nat) : s.redigest.bond? b = s.bond? b := by rw [redigest_frame]; rfl
@[simp] theorem redigest_bus (s : State) (f : Segment) : s.redigest.bus f = s.bus f := by rw [redigest_frame]; rfl

theorem redigest_digest (s : State) : s.redigest.digest = s.hangDigest := by
  unfold State.redigest
  rw [latchIf_frame]

theorem redigest_current (s : State) : DigestCurrent s.redigest := by
  rw [DigestCurrent, redigest_digest]
  exact (hangDigest_congr (fun n => by rw [redigest_setRec]) fun b => by rw [redigest_bond?]).symm

/-- The laws after the digest is recomputed: those of the stations and segments stand as they were. -/
theorem redigest_towerLaws {s : State} (known : StationsKnown s) (lawful : SegmentsLawful s) : TowerLaws s.redigest := by
  refine ⟨?_, ?_, redigest_current s⟩
  · exact known.of_rigs (fun n => by rw [redigest_setRec]) fun f a => by rw [redigest_bus]
  · rw [segmentsLawful_iff] at lawful ⊢
    exact fun f => by rw [redigest_bus]; exact lawful f

end Sys2Proof.Machine
end

section
/-! SUPPORT. Each operation that moves no station and changes no hang is a TowerStep: the shared operations, the claims, the reports and the fly bus events. -/

namespace Sys2Proof.Machine

/-! ## Set records -/

theorem updSet_tower (s : State) (n : Nat) (f : SetRec → SetRec) (hf : (f (s.setRec n)).setup = (s.setRec n).setup) :
    TowerStep s (s.updSet n f) := by
  refine .of_sets rfl fun k => ?_
  rw [setRec_updSet]
  split
  · rename_i e
    rw [hf, e.1]
  · rfl

theorem updSets_tower (s : State) (ns : List Nat) (f : Nat → SetRec → SetRec) (hf : ∀ n r, (f n r).setup = r.setup) :
    TowerStep s (s.updSets ns f) := foldl_tower _ (fun s n => updSet_tower s n (f n) (hf n _)) ns s

theorem digestBondImage_claim (x : Option BondRec) (c : Option Nat) :
    digestBondImage (x.map fun r => { r with claim := c }) = digestBondImage x := by cases x <;> rfl

theorem setClaimField_tower (s : State) (m : Mover) (x : Option Nat) : TowerStep s (s.setClaimField m x) where
  setups n := by
    rw [setRec_setClaimField]
    split <;> rfl
  bonds b := by
    rw [bond?_setClaimField]
    split
    · exact digestBondImage_claim _ _
    · rfl
  digest := by rw [setClaimField_frame]
  buses f := by
    rw [setClaimField_frame]
    exact BusStep.refl _

theorem disengage_setup (r : SetRec) (e : Ending) (n : Nat) : (r.disengage e n).setup = r.setup := by
  unfold SetRec.disengage
  split
  · split <;> rfl
  · rfl

/-! ## Notices, holds and passes -/

theorem mapClaims_tower (s : State) (f : ClaimRec → ClaimRec) : TowerStep s (s.mapClaims f) := .of_frame rfl rfl
theorem updClaim_tower (s : State) (n : Nat) (f : ClaimRec → ClaimRec) : TowerStep s (s.updClaim n f) := .of_frame rfl rfl
theorem regroup_tower (s : State) : TowerStep s s.regroup := .of_frame rfl rfl
theorem settle_tower (s : State) : TowerStep s s.settle := .of_frame rfl rfl
theorem updStop_tower (s : State) (g : StopRec → StopRec) : TowerStep s (s.updStop g) := .of_frame rfl rfl
theorem updLink_tower (s : State) (l : Link) (g : LinkRec → LinkRec) : TowerStep s (s.updLink l g) := .of_frame rfl rfl
theorem reevalColumns_tower (s : State) : TowerStep s s.reevalColumns := .of_frame rfl rfl
theorem putGroup_tower (s : State) (g : Nat) (x : Option GroupRec) : TowerStep s (s.putGroup g x) := .of_frame rfl rfl
theorem putKeepout_tower (s : State) (n : Nat) (x : Option Keepout) : TowerStep s (s.putKeepout n x) := .of_frame rfl rfl
theorem latch_tower (src : Source) (s : State) : TowerStep s (latch src s) := .of_frame rfl rfl
theorem elapse_tower (ms : Nat) (s : State) : TowerStep s (s.elapse ms) := .of_frame rfl rfl

theorem setNotices_tower (before s : State) : TowerStep s (setNotices before s) := .of_frame (setNotices_frame before s) rfl
theorem trustNotices_tower (before : State) (ms : List Mover) (s : State) : TowerStep s (trustNotices before ms s) :=
  .of_frame (trustNotices_frame before ms s) rfl
theorem stateNotices_tower (before : State) (ms : List Mover) (s : State) : TowerStep s (stateNotices before ms s) :=
  (setNotices_tower before s).trans (trustNotices_tower before ms _)
theorem latchIf_tower (b : Bool) (src : Source) (s : State) : TowerStep s (latchIf b src s) :=
  .of_frame (latchIf_frame b src s) rfl
theorem faultClaim_tower (s : State) (c : ClaimRec) (k : FaultCause) : TowerStep s (s.faultClaim c k) :=
  .of_frame (faultClaim_frame s c k) rfl

/-- Grants change no rig entry, no hang, no bond and no controller. -/
theorem Granting.tower {s t : State} (h : Granting s t) : TowerStep s t := by
  have setups : ∀ n, (t.setRec n).setup = (s.setRec n).setup := fun n => by
    rcases h.sets n with e | ⟨-, -, -, e⟩ <;> rw [e]
  exact (TowerStep.of_sets (t := { s with sets := t.sets }) rfl setups).trans (.of_frame h.frame rfl)

theorem pass_tower (s : State) : TowerStep s s.pass := (pass_granting s).tower
theorem passIf_tower (b : Bool) (s : State) : TowerStep s (passIf b s) := (passIf_granting b s).tower

/-! ## Claims made, removed and ended -/

theorem removeWaiting_tower (s : State) (c : ClaimRec) : TowerStep s (s.removeWaiting c) :=
  (TowerStep.of_frame rfl rfl : TowerStep s (s.dropClaim c.number)).trans (setClaimField_tower _ _ _)

theorem removeMembers_tower (s : State) (ns : List Nat) : TowerStep s (s.removeMembers ns) :=
  foldl_tower _ (fun s n => by
    split
    · exact removeWaiting_tower s _
    · exact .refl s) ns s

theorem dissolveGroup_tower (s : State) (g : Nat) (x : GroupRec) : TowerStep s (s.dissolveGroup g x) :=
  (removeMembers_tower s x.members).trans (putGroup_tower _ g none)

theorem groupDrop_tower (s : State) (c : ClaimRec) : TowerStep s (s.groupDrop c) := by
  unfold State.groupDrop
  split
  · exact .refl s
  · split
    · exact .refl s
    · dsimp only
      split
      · exact .of_frame rfl rfl
      · split
        · exact .of_frame rfl rfl
        · exact (dissolveGroup_tower s _ _).trans (latch_tower _ _)
      · exact .of_frame rfl rfl

theorem removeLive_tower (s : State) (c : ClaimRec) (e : Ending) : TowerStep s (s.removeLive c e) := by
  have freed := removeWaiting_tower s c
  have placed := updSets_tower (s.removeWaiting c) ((s.removeWaiting c).members c.mover) (fun n r => r.disengage e n)
    fun n r => disengage_setup r e n
  exact (freed.trans placed).trans
    ((setNotices_tower s _).trans ((groupDrop_tower _ c).trans (trustNotices_tower s [c.mover] _)))

theorem engage_tower (s : State) (m : Mover) : TowerStep s (s.engage m) := updSets_tower s _ _ fun _ _ => rfl

theorem grant_tower (s : State) (c : ClaimRec) (v : Nat) (p : Plan) : TowerStep s (s.grant c v p) :=
  (updClaim_tower s c.number _).trans (engage_tower _ _)

theorem create_tower (s : State) (c : ClaimRec) : TowerStep s (s.create c) :=
  (TowerStep.of_frame rfl rfl : TowerStep s { s with claims := s.claims ++ [c] }).trans
    ((setClaimField_tower _ _ _).trans (latchIf_tower _ _ _))

/-! ## The requests on claims -/

theorem claimOutcome_tower (l : Link) (q : ClaimReq) (n : Nat) (s : State) : TowerStep s (s.claimOutcome l q n).1 := by
  unfold State.claimOutcome
  dsimp only
  split
  · split
    · exact (create_tower s _).trans (engage_tower _ _)
    · exact .refl s
  · split
    · exact (create_tower s _).trans ((putGroup_tower _ _ _).trans (passIf_tower _ _))
    · split
      · exact (create_tower s _).trans (grant_tower _ _ _ _)
      · split
        · exact create_tower s _
        · exact .refl s

theorem serveClaim_tower (l : Link) (q : ClaimReq) (s : State) : TowerStep s (serveClaim l q s).1 := by
  unfold serveClaim
  split
  · exact .refl s
  · split
    · exact claimOutcome_tower l q _ s
    · exact .refl s

theorem onClaim_tower (s : State) (n : Nat) (k : ClaimRec → State × Reply) (h : ∀ c, TowerStep s (k c).1) :
    TowerStep s (s.onClaim n k).1 := by
  unfold State.onClaim
  split
  · exact h _
  · exact .refl s

theorem onOwnClaim_tower (s : State) (l : Link) (n : Nat) (k : ClaimRec → State × Reply) (h : ∀ c, TowerStep s (k c).1) :
    TowerStep s (s.onOwnClaim l n k).1 :=
  onClaim_tower s n _ fun c => by
    split
    · exact h c
    · exact .refl s

theorem acceptRetarget_tower (s : State) (c : ClaimRec) (q : RetargetReq) (targets : List (Nat × Int)) (v : Nat)
    (new old : Region) : TowerStep s (s.acceptRetarget c q targets v new old) := by
  unfold State.acceptRetarget
  refine TowerStep.trans ?_ (passIf_tower _ _)
  split
  · exact (updClaim_tower s _ _).trans (reevalColumns_tower _)
  · exact updClaim_tower s _ _

theorem retargetLive_tower (s : State) (c : ClaimRec) (q : RetargetReq) : TowerStep s (s.retargetLive c q).1 := by
  unfold State.retargetLive
  dsimp only
  split
  · exact .refl s
  · split
    · split
      · exact .refl s
      · exact acceptRetarget_tower s c q _ _ _ _
    · exact .refl s
    · exact .refl s

theorem serveRetarget_tower (l : Link) (q : RetargetReq) (s : State) : TowerStep s (serveRetarget l q s).1 :=
  onOwnClaim_tower s l _ _ fun c => by
    split
    · exact .refl s
    · split
      · exact (updClaim_tower s c.number _).trans (pass_tower _)
      · exact retargetLive_tower s c q

theorem serveRetire_tower (l : Link) (n : Nat) (s : State) : TowerStep s (serveRetire l n s).1 :=
  onOwnClaim_tower s l _ _ fun c => by
    cases c.state with
    | waiting => exact (removeWaiting_tower s c).trans (groupDrop_tower _ c)
    | granted => exact (updClaim_tower s n _).trans (regroup_tower _)
    | moving => exact (updClaim_tower s n _).trans (regroup_tower _)
    | held => exact (updClaim_tower s n _).trans (regroup_tower _)
    | retiring => exact .refl s
    | arrived => exact (removeLive_tower s c _).trans (pass_tower _)
    | standing => exact (removeLive_tower s c _).trans (pass_tower _)
    | faulted => exact (removeLive_tower s c _).trans (pass_tower _)

theorem serveHoldClaim_tower (n : Nat) (s : State) : TowerStep s (serveHoldClaim n s).1 :=
  onClaim_tower s n _ fun _ => by
    split
    · exact (updClaim_tower s n _).trans (regroup_tower _)
    · exact .refl s

theorem serveReleaseClaim_tower (l : Link) (n : Nat) (s : State) : TowerStep s (serveReleaseClaim l n s).1 :=
  onOwnClaim_tower s l n _ fun _ => by
    split
    · exact (updClaim_tower s n _).trans (settle_tower _)
    · split <;> exact .refl s

theorem serveAdopt_tower (l : Link) (src : Nat) (s : State) : TowerStep s (serveAdopt l src s).1 := by
  have regrouped {t : State} (gs : Vector (Option GroupRec) 24) : TowerStep t { t with groups := gs } := .of_frame rfl rfl
  unfold serveAdopt
  split
  · exact .refl s
  · split
    · exact .refl s
    · split
      · exact .refl s
      · exact ((mapClaims_tower s _).trans (regrouped _)).trans ((settle_tower _).trans (pass_tower _))

theorem warm_setup (r : SetRec) : r.warm.setup = r.setup := by
  unfold SetRec.warm
  split <;> rfl

theorem setRec_warm (s : State) (n : Nat) : s.warm.setRec n = (s.setRec n).warm := by
  unfold State.warm State.setRec
  dsimp only
  rw [Tab.get?_map]
  cases Tab.get? s.sets n <;> rfl

theorem clearFresh_busStep (b : Bus) : BusStep b b.clearFresh := .of_state (sameStations_clearFresh b) rfl id

theorem warm_tower (s : State) : TowerStep s s.warm where
  setups n := by rw [setRec_warm, warm_setup]
  bonds b := by
    rw [← digestBondImage_claim (s.bond? b) none]
    exact congrArg digestBondImage (Tab.record?_map s.bonds _ b)
  digest := rfl
  buses f := by cases f <;> exact clearFresh_busStep _

theorem serveWarmRestart_tower (s : State) : TowerStep s (serveWarmRestart s).1 := by
  unfold serveWarmRestart
  split
  · exact .refl s
  · exact warm_tower s

/-! ## The requests on keep-outs, groups, the attention and the parameters -/

theorem serveAddKeepout_tower (q : KeepoutReq) (s : State) : TowerStep s (serveAddKeepout q s).1 := by
  unfold serveAddKeepout
  split
  · exact .refl s
  · split
    · exact .refl s
    · exact .of_frame rfl rfl

theorem serveRetireKeepout_tower (n : Nat) (s : State) : TowerStep s (serveRetireKeepout n s).1 := by
  unfold serveRetireKeepout
  split
  · exact .refl s
  · exact (putKeepout_tower s n none).trans (pass_tower _)

theorem serveOpenGroup_tower (l : Link) (q : OpenGroupReq) (s : State) : TowerStep s (serveOpenGroup l q s).1 := by
  unfold serveOpenGroup
  split
  · exact .refl s
  · exact .of_frame rfl rfl

theorem onOwnGroup_tower (s : State) (l : Link) (g : Nat) (k : GroupRec → State × Reply) (h : ∀ x, TowerStep s (k x).1) :
    TowerStep s (s.onOwnGroup l g k).1 := by
  unfold State.onOwnGroup State.onGroup
  split
  · dsimp only
    split
    · exact h _
    · exact .refl s
  · exact .refl s

theorem serveCloseGroup_tower (l : Link) (g : Nat) (s : State) : TowerStep s (serveCloseGroup l g s).1 :=
  onOwnGroup_tower s l g _ fun _ => by
    split
    · exact .refl s
    · exact (putGroup_tower s g _).trans (pass_tower _)

theorem serveCancelGroup_tower (l : Link) (g : Nat) (s : State) : TowerStep s (serveCancelGroup l g s).1 :=
  onOwnGroup_tower s l g _ fun x => by
    split
    · exact .refl s
    · exact dissolveGroup_tower s g x

theorem serveClearAttention_tower (q : ClearReq) (s : State) : TowerStep s (serveClearAttention q s).1 := by
  unfold serveClearAttention
  split <;> exact .of_frame rfl rfl

theorem serveClearFaults_tower (n : Option Nat) (s : State) : TowerStep s (serveClearFaults n s).1 := by
  cases n <;> exact .of_frame rfl rfl

theorem setClearance_tower (v : Nat) (s : State) : TowerStep s (setClearance v s).1 := by
  unfold setClearance
  split
  · exact .refl s
  · split <;> exact .of_frame rfl rfl

theorem applyParam_tower (p : Param) (v : Nat) (s : State) : TowerStep s (applyParam p v s).1 := by
  cases p with
  | clearance => exact setClearance_tower v s
  | idleSlice f => exact .of_bus s f (fun b => { b with idleSlice := v }) (.of_state (fun _ => rfl) rfl id)
  | nearFull => exact .of_frame rfl rfl
  | weight l => exact .of_frame rfl rfl
  | pointer => exact .of_frame rfl rfl
  | served => exact .of_frame rfl rfl
  | drift => exact .of_frame rfl rfl
  | window l => exact .of_frame rfl rfl
  | mode => exact .of_frame rfl rfl
  | routing n => exact .of_frame rfl rfl
  | enable n => exact .of_frame rfl rfl

theorem serveSetParameter_tower (p : ParamName) (v : Nat) (s : State) : TowerStep s (serveSetParameter p v s).1 := by
  unfold serveSetParameter
  split
  · exact .refl s
  · exact applyParam_tower _ v s

/-! ## The lookups -/

theorem serveLookupKeepout_tower (n : Nat) (s : State) : TowerStep s (serveLookupKeepout n s).1 := by
  unfold serveLookupKeepout
  split <;> exact .refl s

theorem serveLookupGroup_tower (g : Nat) (s : State) : TowerStep s (serveLookupGroup g s).1 := by
  unfold serveLookupGroup State.onGroup
  split <;> exact .refl s

theorem serveLookupBond_tower (b : Nat) (s : State) : TowerStep s (serveLookupBond b s).1 := by
  unfold serveLookupBond
  split <;> exact .refl s

theorem serveLookupSegment_tower (f : Nat) (s : State) : TowerStep s (serveLookupSegment f s).1 := by
  unfold serveLookupSegment
  split <;> exact .refl s

theorem serveLookupStation_tower (f a : Nat) (s : State) : TowerStep s (serveLookupStation f a s).1 := by
  unfold serveLookupStation
  split <;> exact .refl s

theorem serveReadParameter_tower (p : ParamName) (s : State) : TowerStep s (serveReadParameter p s).1 := by
  unfold serveReadParameter
  split <;> exact .refl s

/-! ## The stop and the holds -/

theorem cancelWaits_tower (s : State) : TowerStep s s.cancelWaits :=
  (foldl_tower _ removeWaiting_tower s.waitingClaims s).trans
    ((foldl_tower _ (fun t g => putGroup_tower t g none) s.openGroups _).trans (latchIf_tower _ _ _))

theorem holdWhere_tower (s : State) (p : ClaimRec → Bool) (add : Reasons → Reasons) : TowerStep s (s.holdWhere p add) :=
  mapClaims_tower s _

theorem enterStopped_tower (s : State) : TowerStep s s.enterStopped :=
  (((updStop_tower s _).trans (holdWhere_tower _ _ _)).trans (cancelWaits_tower _)).trans
    ((regroup_tower _).trans (latch_tower _ _))

theorem serveStop_tower (s : State) : TowerStep s (serveStop s).1 := by
  unfold serveStop
  split
  · exact .refl s
  · dsimp only
    split
    · exact (enterStopped_tower s).trans (updStop_tower _ _)
    · exact enterStopped_tower s

theorem serveHoldAll_tower (s : State) : TowerStep s (serveHoldAll s).1 :=
  (updStop_tower s _).trans ((holdWhere_tower _ _ _).trans ((regroup_tower _).trans (latchIf_tower _ _ _)))

theorem serveReleaseAll_tower (s : State) : TowerStep s (serveReleaseAll s).1 :=
  (updStop_tower s _).trans ((mapClaims_tower _ _).trans ((settle_tower _).trans (passIf_tower _ _)))

theorem serveResume_tower (s : State) : TowerStep s (serveResume s).1 := by
  unfold serveResume
  split
  · exact (updStop_tower s _).trans ((mapClaims_tower _ _).trans ((settle_tower _).trans (pass_tower _)))
  · exact .refl s
  · exact .refl s

/-! ## Presence -/

theorem presenceEvent_tower (s : State) (l : Link) : TowerStep s (s.presenceEvent l) := by
  unfold State.presenceEvent
  dsimp only
  split
  · exact (updLink_tower s l _).trans ((mapClaims_tower _ _).trans ((settle_tower _).trans (pass_tower _)))
  · exact updLink_tower s l _

/-! ## The Set Registry's reports -/

theorem rollCall_setup (s : State) (n : Nat) (u : Setup) (r : Report) (x : SetRec) : (s.rollCall n u r x).setup = x.setup := by
  unfold State.rollCall
  repeat' split
  all_goals rfl

theorem restTests_setup (s : State) (n : Nat) (u : Setup) (r : Report) (x : SetRec) : (s.restTests n u r x).setup = x.setup := by
  unfold State.restTests
  repeat' split
  all_goals rfl

theorem reported_setup (s : State) (n : Nat) (u : Setup) (r : Report) : (s.reported n u r).setup = (s.setRec n).setup := by
  unfold State.reported
  dsimp only
  split
  · split
    · exact rollCall_setup s n u r _
    · rfl
  · split
    · rfl
    · exact restTests_setup s n u r _
  · rfl
  · rfl
  · rfl

theorem registryReport_tower (s : State) (n : Nat) (r : Report) : TowerStep s (s.registryReport n r) := by
  unfold State.registryReport
  split
  · exact .refl s
  · exact (updSet_tower s n _ (reported_setup s n _ r)).trans (stateNotices_tower s _ _)

theorem takeReport_tower (s : State) (n : Nat) (r : Report) : TowerStep s (s.takeReport n r) :=
  (registryReport_tower s n r).trans (passIf_tower _ _)

theorem afterSetChange_tower (before s : State) (n : Nat) : TowerStep s (State.afterSetChange before s n) :=
  (stateNotices_tower before _ s).trans (passIf_tower _ _)

theorem identified_setup (x : SetRec) (n k : Nat) : (x.identified n k).setup = x.setup := by
  unfold SetRec.identified
  repeat' split
  all_goals rfl

theorem registryIdent_tower (s : State) (n k : Nat) : TowerStep s (s.registryIdent n k) :=
  (updSet_tower s n _ (identified_setup _ n k)).trans (afterSetChange_tower s _ n)

theorem stale_setup (x : SetRec) : x.stale.setup = x.setup := by
  unfold SetRec.stale
  split <;> rfl

theorem registryStale_tower (s : State) (n : Nat) : TowerStep s (s.registryStale n) :=
  (updSet_tower s n _ (stale_setup _)).trans (afterSetChange_tower s _ n)

/-! ## The Travel Monitor -/

theorem takeStep_tower (s : State) (c : ClaimRec) (n : Nat) (k : Content) (takes : Bool) : TowerStep s (s.takeStep c n k takes) := by
  unfold State.takeStep
  split
  · dsimp only
    split
    · split <;> exact .of_frame rfl rfl
    · split
      · exact (updClaim_tower s _ _).trans (faultClaim_tower _ _ _)
      · exact updClaim_tower s _ _
  · exact .refl s

theorem arrival_tower (s : State) (c : ClaimRec) : TowerStep s (s.arrival c) := by
  unfold State.arrival
  split
  · exact (updClaim_tower s _ _).trans ((groupDrop_tower _ c).trans (regroup_tower _))
  · exact removeLive_tower s c _

theorem stallProgress_tower (s : State) (c : ClaimRec) : TowerStep s (s.stallProgress c) := by
  unfold State.stallProgress
  split <;> exact .of_frame rfl rfl

theorem stopStep_tower (s : State) (c : ClaimRec) (r : Report) (fresh : Bool) : TowerStep s (s.stopStep c r fresh) := by
  unfold State.stopStep
  split
  · exact faultClaim_tower s c _
  · exact .refl s

theorem progress_tower (s : State) (c : ClaimRec) (n : Nat) (k : Content) (r : Report) (fresh takes : Bool) :
    TowerStep s (s.progress c n k r fresh takes).1 := by
  unfold State.progress
  cases c.state with
  | granted => exact takeStep_tower s c n k takes
  | moving =>
    dsimp only
    split
    · exact arrival_tower s c
    · exact stallProgress_tower s c
  | held => exact (takeStep_tower s c n k takes).trans (stopStep_tower _ c r fresh)
  | retiring =>
    dsimp only
    split
    · exact removeLive_tower s c _
    · exact stopStep_tower s c r fresh
  | waiting => exact .refl s
  | arrived => exact .refl s
  | standing => exact .refl s
  | faulted => exact .refl s

theorem supervise_tower (s : State) (c : ClaimRec) (x : TravelNote) (r : Report) (fresh : Bool) :
    TowerStep s (s.supervise c x r fresh).1 := by
  unfold State.supervise
  dsimp only
  split
  · exact (updClaim_tower s _ _).trans (faultClaim_tower _ _ _)
  · exact (updClaim_tower s _ _).trans (progress_tower _ _ _ _ _ _ _)

theorem forward_tower (p : State × Bool) (n : Nat) (r : Report) : TowerStep p.1 (State.forward p n r) :=
  (registryReport_tower p.1 n r).trans (passIf_tower _ _)

theorem travel_tower (s : State) (x : TravelNote) (fresh : Bool) : TowerStep s (s.travel x fresh) := by
  unfold State.travel
  split
  · exact .refl s
  · exact takeReport_tower s _ _
  · unfold State.travelMiss
    split
    · exact takeStep_tower s _ _ _ _
    · exact .refl s
  · split
    · exact forward_tower (s, false) _ _
    · exact (supervise_tower s _ x _ fresh).trans (forward_tower _ _ _)

theorem freshCleared_tower (s : State) (n : Nat) : TowerStep s (s.freshCleared n) := by
  unfold State.freshCleared
  split
  · exact .refl s
  · exact .of_frame rfl rfl

/-! ## Polls -/

theorem build_busStep (b : Bus) (t : Turn) (n : Nat) (k : Content) : BusStep b (b.build t n k) :=
  .of_state (sameStations_putStation b t.address _ rfl) rfl id

theorem pollBuild_tower (s : State) (f : Segment) : TowerStep s (s.pollBuild f) := by
  unfold State.pollBuild
  dsimp only
  split
  · split
    · exact .refl s
    · split
      · exact .refl s
      · exact .of_bus s f (fun b => b.build _ _ _) (build_busStep _ _ _ _)
  · exact .refl s

theorem staleFinding_tower (s : State) (n : Nat) : TowerStep s (s.staleFinding n) := by
  unfold State.staleFinding
  split
  · exact faultClaim_tower s _ _
  · exact registryStale_tower s n

theorem missed_busStep (b : Bus) (p : Poll) (k : MissKind) (live : Bool) (cleared : List FreshNotice) :
    BusStep b (((b.endPoll p).putStation p.address ((b.station p.address).miss k)).handMiss p k live cleared) :=
  .of_state (sameStations_putStation _ p.address _ rfl) rfl id

theorem judgeMiss_tower (s : State) (f : Segment) (p : Poll) (k : MissKind) : TowerStep s (s.judgeMiss f p k) := by
  unfold State.judgeMiss
  dsimp only
  split
  · exact (TowerStep.of_bus s f _ (missed_busStep _ p k _ _)).trans (staleFinding_tower _ _)
  · exact .of_bus s f _ (missed_busStep _ p k _ _)

theorem onPoll_tower (s : State) (f : Segment) (g : Poll → State) (h : ∀ p, TowerStep s (g p)) : TowerStep s (s.onPoll f g) := by
  unfold State.onPoll
  split
  · split
    · exact .of_bus s f (fun b => b.endPoll _) (.of_state (fun _ => rfl) rfl id)
    · exact h _
  all_goals exact .refl s

theorem accept_busStep (b : Bus) (p : Poll) (live : Bool) (r : WireReport) : BusStep b (b.accept p live r) := by
  cases r <;> exact .of_state (sameStations_putStation _ p.address _ rfl) rfl id

theorem reportComplete_tower (s : State) (f : Segment) (r : WireReport) : TowerStep s (s.reportComplete f r) :=
  onPoll_tower s f _ fun p => by
    split
    · exact judgeMiss_tower s f p _
    · exact .of_bus s f _ (accept_busStep _ p _ r)

/-! ## The hand-offs taken -/

theorem takeOutcome_tower (s : State) (f : Segment) : TowerStep s (s.takeOutcome f) := by
  unfold State.takeOutcome
  split
  · exact .refl s
  · rename_i xs _
    exact (TowerStep.of_bus s f (fun b => { b with outcomes := xs }) (.of_state (fun _ => rfl) rfl id)).trans (.of_frame rfl rfl)

theorem takeSetReport_tower (s : State) (f : Segment) : TowerStep s (s.takeSetReport f) := by
  unfold State.takeSetReport
  split
  · exact .refl s
  · rename_i xs _
    exact (TowerStep.of_bus s f (fun b => { b with setReports := xs }) (.of_state (fun _ => rfl) rfl id)).trans (takeReport_tower _ _ _)

theorem takeIdent_tower (s : State) (f : Segment) : TowerStep s (s.takeIdent f) := by
  unfold State.takeIdent
  split
  · exact .refl s
  · rename_i xs _
    exact (TowerStep.of_bus s f (fun b => { b with identReports := xs }) (.of_state (fun _ => rfl) rfl id)).trans (registryIdent_tower _ _ _)

theorem takeTravel_tower (s : State) (f : Segment) : TowerStep s (s.takeTravel f) := by
  unfold State.takeTravel
  split
  · exact .refl s
  · rename_i xs _
    exact (TowerStep.of_bus s f (fun b => { b with tmOutcomes := xs }) (.of_state (fun _ => rfl) rfl id)).trans (travel_tower _ _ _)

theorem takeFreshNotice_tower (s : State) (f : Segment) : TowerStep s (s.takeFreshNotice f) := by
  unfold State.takeFreshNotice
  split
  · exact .refl s
  · rename_i xs _
    exact (TowerStep.of_bus s f (fun b => { b with freshNotices := xs }) (.of_state (fun _ => rfl) rfl id)).trans (freshCleared_tower _ _)

/-! ## Breaks and loop tests -/

theorem clearSegment_busStep (s : State) (f : Segment) :
    BusStep (s.bus f) { (s.bus f).clearFresh with freshNotices := (s.bus f).freshNotices ++ s.clearNotices f } :=
  .of_state (sameStations_clearFresh _) rfl id

theorem clearSegment_tower (s : State) (f : Segment) : TowerStep s (s.clearSegment f) := .of_bus s f _ (clearSegment_busStep s f)

/-- A segment with configured stations and no loop test enters POLLING lawfully. -/
theorem enterPolling_tower (s : State) (f : Segment) (h : SegmentLaw (s.bus f) → (s.bus f).configured ≠ [] ∧ (s.bus f).loop = none) :
    TowerStep s (s.enterPolling f) := by
  refine .of_bus s f _ ⟨fun _ => rfl, fun l => ?_⟩
  obtain ⟨some, noLoop⟩ := h l
  exact ⟨nofun, fun _ => some, fun i => by simp [noLoop] at i⟩

/-- A segment with no configured station and no loop test enters IDLE lawfully. -/
theorem enterIdle_tower (s : State) (f : Segment) (empty : (s.bus f).configured = [])
    (h : SegmentLaw (s.bus f) → (s.bus f).loop = none) : TowerStep s (s.enterIdle f) := by
  refine .of_bus s f _ ⟨fun _ => rfl, fun l => ?_⟩
  have noLoop := h l
  exact ⟨fun _ => empty, fun i => (by simp at i), fun i => by simp [noLoop] at i⟩

theorem SegmentLaw.noLoop {b : Bus} (h : SegmentLaw b) (state : b.state ≠ .loop) : b.loop = none := by
  cases e : b.loop with
  | none => rfl
  | some x => exact absurd (h.loop (by rw [e]; rfl)) state

theorem enterBroken_busStep (b : Bus) (h : b.state = .polling) : BusStep b b.enterBroken := by
  refine ⟨fun _ => rfl, fun l => ⟨nofun, fun i => by simp [Bus.enterBroken] at i, fun i => ?_⟩⟩
  have noLoop := l.noLoop (by rw [h]; decide)
  simp [Bus.enterBroken, noLoop] at i

theorem breakDetected_tower (s : State) (f : Segment) : TowerStep s (s.breakDetected f) := by
  unfold State.breakDetected
  split
  · rename_i h
    exact (TowerStep.of_bus s f _ (enterBroken_busStep _ h)).trans
      ((holdWhere_tower _ _ _).trans ((regroup_tower _).trans (latch_tower _ _)))
  · exact .refl s

theorem clearSegment_bus (s : State) (f : Segment) :
    (s.clearSegment f).bus f = { (s.bus f).clearFresh with freshNotices := (s.bus f).freshNotices ++ s.clearNotices f } := by
  rw [State.clearSegment, bus_updBus, if_pos rfl]

theorem breakEnd_tower (s : State) (f : Segment) : TowerStep s (s.breakEnd f) := by
  unfold State.breakEnd
  split
  · rename_i broken
    have cleared := clearSegment_tower s f
    have state : ((s.clearSegment f).bus f).state ≠ .loop := by
      rw [clearSegment_bus]
      exact ne_of_eq_of_ne broken (by decide)
    have configured : ((s.clearSegment f).bus f).configured = (s.bus f).configured := (cleared.buses f).stations.configured
    refine (cleared.trans ?_).trans ((mapClaims_tower _ _).trans ((settle_tower _).trans (passIf_tower _ _)))
    split
    · rename_i empty
      exact enterIdle_tower _ f (configured.trans empty) fun l => l.noLoop state
    · rename_i some
      exact enterPolling_tower _ f fun l => ⟨configured ▸ some, l.noLoop state⟩
  · exact .refl s

theorem startLoop_busStep (b : Bus) (h : b.state = .polling) : BusStep b b.startLoop :=
  ⟨fun _ => rfl, fun l => ⟨nofun, fun _ => l.busy (.inl h), fun _ => rfl⟩⟩

theorem serveLoopTest_tower (k : Nat) (s : State) : TowerStep s (serveLoopTest k s).1 := by
  unfold serveLoopTest
  split
  · exact .refl s
  · split
    · exact .refl s
    · rename_i polling
      split
      · exact .refl s
      · exact .of_bus s _ _ (startLoop_busStep _ (by simpa using polling))

/-- The end of a loop test on a segment in LOOP. -/
theorem loopEnd_keeps {s : State} (h : TowerLaws s) (f : Segment) (x : LoopRun) (running : (s.bus f).loop.isSome = true) :
    TowerLaws (s.loopEnd f x) := by
  have law := (segmentsLawful_iff s).1 h.2.1 f
  have some : (s.bus f).configured ≠ [] := law.busy (.inr (law.loop running))
  have ended := TowerStep.of_bus s f (fun b => { b with loop := none, loopResult := Option.some x.result })
    (.of_state (fun _ => rfl) rfl nofun)
  have cleared := ended.trans (clearSegment_tower _ f)
  refine h.step (cleared.trans (TowerStep.trans (enterPolling_tower _ f fun _ => ⟨?_, ?_⟩) ((latch_tower _ _).trans (pass_tower _))))
  · rw [(cleared.buses f).stations.configured]
    exact some
  · rw [clearSegment_bus, bus_updBus, if_pos rfl]
    rfl

theorem testFrame_keeps {s : State} (h : TowerLaws s) (f : Segment) (returned : List (Option LineChar)) :
    TowerLaws (s.testFrame f returned) := by
  unfold State.testFrame
  split
  · exact h
  · rename_i x running
    have test : (s.bus f).loop.isSome = true := by rw [running]; rfl
    split
    · exact h
    · dsimp only
      split
      · exact loopEnd_keeps h f _ test
      · exact h.step (.of_bus s f (fun b => { b with loop := some (x.count _ _ _) }) (.of_state (fun _ => rfl) rfl fun _ => test))

end Sys2Proof.Machine
end

section
/-! SUPPORT. Stations that join and leave a controller (R98, R99), and the laws of the tower where a set takes, changes or loses its rig entry. -/

namespace Sys2Proof.Machine

/-! ## A station joins -/

theorem configured_eq_nil (b : Bus) : b.configured = [] ↔ ∀ a, 1 ≤ a → a ≤ 64 → (b.station a).set = none := by
  simp [Bus.configured, List.filter_eq_nil_iff, Tab.mem_numbers]

/-- The controller a station joins, before a round begins. -/
def Bus.joined (b : Bus) (a n : Nat) : Bus :=
  b.putStation a { (b.station a) with
    set := some n, lastContent := none, lastOutcome := none, identity := none, missCount := 0, fresh := false }

theorem updBus_updBus (s : State) (f : Segment) (g h : Bus → Bus) : (s.updBus f g).updBus f h = s.updBus f (h ∘ g) := by
  unfold State.updBus
  rw [bus_putBus, if_pos rfl]
  unfold State.putBus
  rw [PerSegment.put_put]
  rfl

/-- A controller whose segment was IDLE is POLLING, any other as the joining left it. -/
theorem stationJoins_cases (s : State) (f : Segment) (a n : Nat) :
    (s.bus f).state = .idle ∧ (∃ r, s.stationJoins f a n =
        s.updBus f fun b => { b.joined a n with state := .polling, poll := none, round := r }) ∨
      (s.bus f).state ≠ .idle ∧ s.stationJoins f a n = s.updBus f fun b => b.joined a n := by
  have state : ((s.updBus f fun b => b.joined a n).bus f).state = (s.bus f).state := by rw [bus_updBus, if_pos rfl]; rfl
  by_cases h : (s.bus f).state = .idle
  · exact .inl ⟨h, _, (if_pos (state.trans h)).trans (updBus_updBus s f _ _)⟩
  · exact .inr ⟨h, if_neg fun i => h (state.symm.trans i)⟩

theorem joined_station (b : Bus) (a n k : Nat) :
    ((b.joined a n).station k).set = if k = a ∧ 1 ≤ a ∧ a ≤ 64 then some n else (b.station k).set := by
  unfold Bus.joined
  rw [station_putStation]
  split <;> rfl

theorem stationJoins_station (s : State) (f g : Segment) (a n k : Nat) :
    (((s.stationJoins f a n).bus g).station k).set =
      if g = f ∧ k = a ∧ 1 ≤ a ∧ a ≤ 64 then some n else ((s.bus g).station k).set := by
  by_cases e : g = f
  · subst e
    simp only [true_and]
    rw [← joined_station]
    obtain ⟨-, r, h⟩ | ⟨-, h⟩ := stationJoins_cases s g a n
    · rw [h, bus_updBus, if_pos rfl]
      rfl
    · rw [h, bus_updBus, if_pos rfl]
  · rw [if_neg fun h => e h.1]
    obtain ⟨-, r, h⟩ | ⟨-, h⟩ := stationJoins_cases s f a n <;>
      rw [h, bus_updBus, if_neg e]

theorem stationJoins_bus_other (s : State) {f g : Segment} (a n : Nat) (h : g ≠ f) : (s.stationJoins f a n).bus g = s.bus g := by
  obtain ⟨-, r, e⟩ | ⟨-, e⟩ := stationJoins_cases s f a n <;> rw [e, bus_updBus, if_neg h]

theorem stationJoins_not_idle (s : State) (f : Segment) (a n : Nat) : ((s.stationJoins f a n).bus f).state ≠ .idle := by
  obtain ⟨-, r, e⟩ | ⟨h, e⟩ := stationJoins_cases s f a n <;> rw [e, bus_updBus, if_pos rfl]
  · exact nofun
  · exact h

theorem stationJoins_not_loop {s : State} {f g : Segment} (a n : Nat) (h : (s.bus g).state ≠ .loop) :
    ((s.stationJoins f a n).bus g).state ≠ .loop := by
  by_cases e : g = f
  · subst e
    obtain ⟨-, r, e⟩ | ⟨-, e⟩ := stationJoins_cases s g a n <;> rw [e, bus_updBus, if_pos rfl]
    · exact nofun
    · exact h
  · rw [stationJoins_bus_other s a n e]
    exact h

theorem stationJoins_lawful {s : State} (h : SegmentsLawful s) (f : Segment) {a : Nat} (n : Nat) (r : 1 ≤ a ∧ a ≤ 64) :
    SegmentsLawful (s.stationJoins f a n) := by
  rw [segmentsLawful_iff] at h ⊢
  intro g
  by_cases e : g = f
  · subst e
    have some : ((s.stationJoins g a n).bus g).configured ≠ [] :=
      configured_ne_nil (by rw [stationJoins_station, if_pos ⟨rfl, rfl, r⟩]; rfl) r
    refine ⟨fun i => absurd i (stationJoins_not_idle s g a n), fun _ => some, fun i => ?_⟩
    obtain ⟨idle, r, e⟩ | ⟨-, e⟩ := stationJoins_cases s g a n <;> rw [e, bus_updBus, if_pos rfl] at i ⊢
    · have noLoop := (h g).noLoop (by rw [idle]; decide)
      simp [Bus.joined, Bus.putStation, noLoop] at i
    · exact (h g).loop i
  · rw [stationJoins_bus_other s a n e]
    exact h g

/-! ## A station leaves -/

/-- The controller a station leaves, before its segment may become IDLE. -/
def Bus.left (b : Bus) (a : Nat) : Bus :=
  { b.putStation a { (b.station a) with
      set := none, lastContent := none, lastOutcome := none, identity := none, missCount := 0, fresh := false } with
    poll := b.poll.map fun p => p.orphan a
    round := b.round.map fun r => r.leave a }

/-- A POLLING controller left without a configured station is IDLE, any other as the leaving left it. -/
theorem stationLeaves_cases (s : State) (f : Segment) (a : Nat) :
    ((s.bus f).state = .polling ∧ ((s.bus f).left a).configured = []) ∧
        s.stationLeaves f a = (s.updBus f fun b => { b.left a with state := .idle, poll := none, round := none }) ∨
      ¬ ((s.bus f).state = .polling ∧ ((s.bus f).left a).configured = []) ∧
        s.stationLeaves f a = s.updBus f fun b => b.left a := by
  have bus : (s.updBus f fun b => b.left a).bus f = (s.bus f).left a := by rw [bus_updBus, if_pos rfl]
  have e : (((s.updBus f fun b => b.left a).bus f).state = .polling ∧ ((s.updBus f fun b => b.left a).bus f).configured = []) =
      ((s.bus f).state = .polling ∧ ((s.bus f).left a).configured = []) := by
    rw [bus]
    rfl
  by_cases h : (s.bus f).state = .polling ∧ ((s.bus f).left a).configured = []
  · exact .inl ⟨h, (if_pos (e ▸ h)).trans (updBus_updBus s f _ _)⟩
  · exact .inr ⟨h, if_neg (e ▸ h)⟩

theorem left_station (b : Bus) (a k : Nat) :
    ((b.left a).station k).set = if k = a ∧ 1 ≤ a ∧ a ≤ 64 then none else (b.station k).set := by
  have e : (b.left a).station k = (b.putStation a { (b.station a) with
      set := none, lastContent := none, lastOutcome := none, identity := none, missCount := 0, fresh := false }).station k := rfl
  rw [e, station_putStation]
  split <;> rfl

theorem stationLeaves_station (s : State) (f g : Segment) (a k : Nat) :
    (((s.stationLeaves f a).bus g).station k).set =
      if g = f ∧ k = a ∧ 1 ≤ a ∧ a ≤ 64 then none else ((s.bus g).station k).set := by
  by_cases e : g = f
  · subst e
    simp only [true_and]
    rw [← left_station]
    obtain ⟨-, h⟩ | ⟨-, h⟩ := stationLeaves_cases s g a
    · rw [h, bus_updBus, if_pos rfl]
      rfl
    · rw [h, bus_updBus, if_pos rfl]
  · rw [if_neg fun h => e h.1]
    obtain ⟨-, h⟩ | ⟨-, h⟩ := stationLeaves_cases s f a <;> rw [h, bus_updBus, if_neg e]

theorem stationLeaves_bus_other (s : State) {f g : Segment} (a : Nat) (h : g ≠ f) : (s.stationLeaves f a).bus g = s.bus g := by
  obtain ⟨-, e⟩ | ⟨-, e⟩ := stationLeaves_cases s f a <;> rw [e, bus_updBus, if_neg h]

/-- A segment that keeps a configured station does not become IDLE. -/
theorem stationLeaves_not_idle {s : State} {f g : Segment} {a k : Nat} (h : (s.bus g).state ≠ .idle) (r : 1 ≤ k ∧ k ≤ 64)
    (stays : (((s.stationLeaves f a).bus g).station k).set.isSome = true) : ((s.stationLeaves f a).bus g).state ≠ .idle := by
  by_cases e : g = f
  · subst e
    obtain ⟨⟨-, none⟩, e⟩ | ⟨-, e⟩ := stationLeaves_cases s g a <;> rw [e, bus_updBus, if_pos rfl] at stays ⊢
    · exact absurd none (configured_ne_nil (a := k) stays r)
    · exact h
  · rw [stationLeaves_bus_other s a e]
    exact h

theorem stationLeaves_lawful {s : State} (h : SegmentsLawful s) {f : Segment} (a : Nat) (notLoop : (s.bus f).state ≠ .loop) :
    SegmentsLawful (s.stationLeaves f a) := by
  rw [segmentsLawful_iff] at h ⊢
  intro g
  by_cases e : g = f
  · subst e
    have noLoop := (h g).noLoop notLoop
    obtain ⟨⟨-, none⟩, e⟩ | ⟨stays, e⟩ := stationLeaves_cases s g a <;> rw [e, bus_updBus, if_pos rfl]
    · exact ⟨fun _ => none, fun i => by simp at i, fun i => by simp [Bus.left, Bus.putStation, noLoop] at i⟩
    · refine ⟨fun i => ?_, fun i => ?_, fun i => by simp [Bus.left, Bus.putStation, noLoop] at i⟩
      · have none := (configured_eq_nil _).1 ((h g).idle i)
        refine (configured_eq_nil _).2 fun k k1 k2 => ?_
        rw [left_station]
        split
        · rfl
        · exact none k k1 k2
      · rcases i with i | i
        · exact fun none => stays ⟨i, none⟩
        · exact absurd i notLoop
  · rw [stationLeaves_bus_other s a e]
    exact h g

/-! ## A rig entry taken, changed or lost -/

theorem names_iff (u : Setup) (f : Segment) (a : Nat) : u.names f a = true ↔ u.rig.segment = f ∧ u.rig.address = a := by
  simp [Setup.names]

/-- Set `n` takes the rig entry of `new`, which no other set names: its station is configured for it, and that of its old rig
entry, where it was another, for no set. -/
theorem StationsKnown.moved {s t : State} (h : StationsKnown s) (n : Nat) (new : Option Setup)
    (setups : ∀ k, (t.setRec k).setup = if k = n then new else (s.setRec k).setup)
    (stations : ∀ f a, ((t.bus f).station a).set =
      if new.any (fun u => u.names f a) then some n
      else if (s.setRec n).setup.any (fun u => u.names f a) then none else ((s.bus f).station a).set)
    (range : ∀ u, new = some u → 1 ≤ u.rig.address ∧ u.rig.address ≤ 64)
    (free : ∀ u, new = some u → ∀ k v, k ≠ n → (s.setRec k).setup = some v → ¬ v.names u.rig.segment u.rig.address) :
    StationsKnown t := by
  refine ⟨fun k v hv => ?_, fun f a k hk => ?_⟩
  · rw [setups] at hv
    split at hv
    · rename_i e
      subst e
      refine ⟨(range v hv).1, (range v hv).2, ?_⟩
      rw [stations, if_pos]
      rw [hv]
      exact (names_iff v _ _).2 ⟨rfl, rfl⟩
    · rename_i other
      obtain ⟨lo, hi, at'⟩ := h.1 k v hv
      refine ⟨lo, hi, ?_⟩
      have notNew : ¬ new.any (fun u => u.names v.rig.segment v.rig.address) = true := by
        intro i
        obtain ⟨u, hu, e⟩ := (Option.any_eq_true _ _).1 i
        obtain ⟨e1, e2⟩ := (names_iff u _ _).1 e
        exact free u hu k v other hv ((names_iff v _ _).2 ⟨e1.symm, e2.symm⟩)
      have notOld : ¬ (s.setRec n).setup.any (fun u => u.names v.rig.segment v.rig.address) = true := by
        intro i
        obtain ⟨u, hu, e⟩ := (Option.any_eq_true _ _).1 i
        obtain ⟨e1, e2⟩ := (names_iff u _ _).1 e
        exact other (h.injective hv hu e1.symm e2.symm)
      rw [stations, if_neg notNew, if_neg notOld, at']
  · rw [stations] at hk
    split at hk
    · rename_i i
      obtain ⟨u, hu, e⟩ := (Option.any_eq_true _ _).1 i
      obtain ⟨e1, e2⟩ := (names_iff u _ _).1 e
      refine ⟨u, ?_, e1, e2⟩
      rw [setups, if_pos (Option.some.inj hk).symm, hu]
    · split at hk
      · cases hk
      · rename_i notOld
        obtain ⟨u, hu, e1, e2⟩ := h.2 f a k hk
        refine ⟨u, ?_, e1, e2⟩
        rw [setups, if_neg, hu]
        rintro rfl
        exact notOld ((Option.any_eq_true _ _).2 ⟨u, hu, (names_iff u _ _).2 ⟨e1, e2⟩⟩)

end Sys2Proof.Machine
end

section
/-! SUPPORT. The Set Registry's requests taken (R17 to R23): what the owner's step answers, what it writes, and that it keeps the laws of the tower. -/

namespace Sys2Proof.Machine

/-! ## Columns under a change -/

theorem columnChanged_frame (before : State) (m : Mover) (s : State) : PassFrame s (columnChanged before m s) := by
  refine PassFrame.trans' ?_ (passIf_frame _ _)
  unfold PassFrame
  rw [reevalColumns_frame, raiseColumn_frame]

theorem raiseColumn_tower (s : State) (m : Mover) : TowerStep s (s.raiseColumn m) := .of_frame (raiseColumn_frame s m) rfl

theorem columnChanged_tower (before : State) (m : Mover) (s : State) : TowerStep s (columnChanged before m s) :=
  ((raiseColumn_tower s m).trans (reevalColumns_tower _)).trans (passIf_tower _ _)

theorem setRec_passIf_of_dark (b : Bool) (s : State) (n : Nat) (h : (s.setRec n).state = .dark) :
    (passIf b s).setRec n = s.setRec n := by
  rcases (passIf_granting b s).sets n with e | ⟨-, notDark, -⟩
  · exact e
  · exact absurd h notDark

/-! ## CONFIGURE SET -/

/-- The tables of sets and stations that an accepted CONFIGURE SET writes, before the notices. -/
def State.reconfigured (s : State) (q : ConfigureReq) : State :=
  (s.updSet q.set fun r => r.configure (configured q)).moveStation q.set (s.setRec q.set).setup q.segment q.address

theorem serveConfigureSet_refused {q : ConfigureReq} {s : State} {r : Result} (h : s.configureCheck q = some r) :
    serveConfigureSet q s = (s, Reply.of r) := by simp only [serveConfigureSet, h]

theorem serveConfigureSet_taken {q : ConfigureReq} {s : State} (h : s.configureCheck q = none) :
    serveConfigureSet q s = (configureNotices s q.set (s.reconfigured q).redigest, Reply.of .done) := by
  simp only [serveConfigureSet, h]
  rfl

/-- What check 3 and check 4 of R17 leave: the station is named by no other set, and neither segment is in LOOP. -/
theorem configureCheck_none {s : State} {q : ConfigureReq} (h : s.configureCheck q = none) :
    s.stationTaken q.set q.segment q.address = false ∧ (s.bus q.segment).state ≠ .loop ∧
      ∀ u, (s.setRec q.set).setup = some u → (s.bus u.rig.segment).state ≠ .loop := by
  unfold State.configureCheck at h
  dsimp only at h
  split at h
  · cases h
  · split at h
    · cases h
    · split at h
      · cases h
      · rename_i taken
        split at h
        · cases h
        · rename_i loops
          simp only [Bool.or_eq_true, not_or, State.inLoop, decide_eq_true_eq] at loops
          refine ⟨by simpa using taken, loops.1, fun u hu l => loops.2 ?_⟩
          rw [hu]
          simpa using l

theorem configureForm {q : ConfigureReq} (h : formOk (.configureSet q) = true) :
    (1 ≤ q.set ∧ q.set ≤ 128) ∧ 1 ≤ q.address ∧ q.address ≤ 64 := by
  simp only [formOk, configureOk, between, Bool.and_eq_true, decide_eq_true_eq] at h
  obtain ⟨⟨⟨⟨⟨⟨⟨⟨⟨⟨⟨set, address⟩, -⟩, -⟩, -⟩, -⟩, -⟩, -⟩, -⟩, -⟩, -⟩, -⟩ := h
  exact ⟨set, address⟩

theorem moveStation_frame (s : State) (n : Nat) (old : Option Setup) (f : Segment) (a : Nat) :
    s.moveStation n old f a = { s with buses := (s.moveStation n old f a).buses } := by
  unfold State.moveStation
  split
  · rw [stationJoins_frame]
  · split
    · rfl
    · rw [stationLeaves_frame, stationJoins_frame]

theorem reconfigured_frame (s : State) (q : ConfigureReq) :
    s.reconfigured q = { s with sets := (s.reconfigured q).sets, buses := (s.reconfigured q).buses } := by
  unfold State.reconfigured
  rw [moveStation_frame]
  rfl

theorem reconfigured_setRec (s : State) (q : ConfigureReq) (h : 1 ≤ q.set ∧ q.set ≤ 128) (k : Nat) :
    (s.reconfigured q).setRec k = if k = q.set then (s.setRec q.set).configure (configured q) else s.setRec k := by
  have sets : (s.reconfigured q).sets = (s.updSet q.set fun r => r.configure (configured q)).sets := by
    unfold State.reconfigured
    rw [moveStation_frame]
  rw [setRec_congr sets, setRec_updSet]
  simp only [h.1, h.2, and_self, and_true]

/-- A station new to the set is configured for it, and its segment is not IDLE. -/
theorem moveStation_new (s : State) (n : Nat) {old : Option Setup} {f : Segment} {a : Nat} (r : 1 ≤ a ∧ a ≤ 64)
    (other : ∀ u, old = some u → u.names f a = false) :
    (((s.moveStation n old f a).bus f).station a).set = some n ∧ ((s.moveStation n old f a).bus f).state ≠ .idle := by
  have joined : (((s.stationJoins f a n).bus f).station a).set = some n := by rw [stationJoins_station, if_pos ⟨rfl, rfl, r⟩]
  have state := stationJoins_not_idle s f a n
  cases old with
  | none => exact ⟨joined, state⟩
  | some u =>
    have names := other u rfl
    have e : s.moveStation n (some u) f a = (s.stationJoins f a n).stationLeaves u.rig.segment u.rig.address := by
      simp [State.moveStation, names]
    have stays : ((((s.stationJoins f a n).stationLeaves u.rig.segment u.rig.address).bus f).station a).set = some n := by
      rw [stationLeaves_station, if_neg, joined]
      rintro ⟨e1, e2, -⟩
      rw [(names_iff u f a).2 ⟨e1.symm, e2.symm⟩] at names
      cases names
    rw [e]
    exact ⟨stays, stationLeaves_not_idle state r (by rw [stays]; rfl)⟩

theorem station_out (b : Bus) (a : Nat) (h : ¬ (1 ≤ a ∧ a ≤ 64)) : b.station a = Station.reset := by
  have e := Tab.get?_isSome b.stations a
  rw [decide_eq_false h, Option.isSome_eq_false_iff, Option.isNone_iff_eq_none] at e
  rw [Bus.station, e]
  rfl

/-- The sets of the stations after a move: the new station has the set, the old one, where it is another, none. -/
theorem moveStation_station (s : State) (n : Nat) {old : Option Setup} {f : Segment} {a : Nat} (r : 1 ≤ a ∧ a ≤ 64)
    (known : ∀ u, old = some u → u.names f a = true → ((s.bus f).station a).set = some n) (g : Segment) (k : Nat) :
    (((s.moveStation n old f a).bus g).station k).set =
      if f = g ∧ a = k then some n else if old.any (fun u => u.names g k) then none else ((s.bus g).station k).set := by
  have joined : (((s.stationJoins f a n).bus g).station k).set = if f = g ∧ a = k then some n else ((s.bus g).station k).set := by
    rw [stationJoins_station]
    exact if_congr ⟨fun h => ⟨h.1.symm, h.2.1.symm⟩, fun h => ⟨h.1.symm, h.2.symm, r⟩⟩ rfl rfl
  cases old with
  | none => exact joined
  | some u =>
    by_cases names : u.names f a = true
    · have stays := known u rfl names
      simp only [State.moveStation, if_pos names, Option.any_some]
      obtain ⟨e1, e2⟩ := (names_iff u f a).1 names
      by_cases at' : f = g ∧ a = k
      · rw [if_pos at', ← at'.1, ← at'.2, stays]
      · rw [if_neg at', if_neg fun i => at' ?_]
        obtain ⟨i1, i2⟩ := (names_iff u g k).1 i
        exact ⟨e1.symm.trans i1, e2.symm.trans i2⟩
    · simp only [State.moveStation, if_neg names, Option.any_some]
      rw [stationLeaves_station, joined]
      by_cases at' : f = g ∧ a = k
      · rw [if_pos at', if_pos at', if_neg]
        rintro ⟨i1, i2, -⟩
        exact names ((names_iff u f a).2 ⟨by rw [at'.1, i1], by rw [at'.2, i2]⟩)
      · rw [if_neg at', if_neg at']
        by_cases range : 1 ≤ k ∧ k ≤ 64
        · refine if_congr ⟨fun h => (names_iff u g k).2 ⟨h.1.symm, h.2.1.symm⟩, fun h => ?_⟩ rfl rfl
          obtain ⟨h1, h2⟩ := (names_iff u g k).1 h
          exact ⟨h1.symm, h2.symm, h2 ▸ range⟩
        · rw [station_out _ k range]
          exact (ite_self _).trans (ite_self _).symm

theorem moveStation_lawful {s : State} (h : SegmentsLawful s) (n : Nat) {old : Option Setup} (f : Segment) {a : Nat}
    (r : 1 ≤ a ∧ a ≤ 64) (notLoop : ∀ u, old = some u → (s.bus u.rig.segment).state ≠ .loop) :
    SegmentsLawful (s.moveStation n old f a) := by
  have joined := stationJoins_lawful h f n r
  unfold State.moveStation
  split
  · exact joined
  · split
    · exact h
    · exact stationLeaves_lawful joined _ (stationJoins_not_loop a n (notLoop _ rfl))

/-- No other set names the station that check 3 of R17 passes. -/
theorem stationTaken_false {s : State} {n : Nat} {f : Segment} {a : Nat} (h : s.stationTaken n f a = false) {k : Nat} {v : Setup}
    (other : k ≠ n) (hv : (s.setRec k).setup = some v) : v.names f a = false := by
  have inTable : k ∈ Tab.numbers 128 := by
    by_contra out
    rw [setRec_out s k (fun r => out ((Tab.mem_numbers 128 k).2 r))] at hv
    cases hv
  have e := List.any_eq_false.1 h k inTable
  simpa [other, hv] using e

theorem reconfigured_known {s : State} {q : ConfigureReq} (h : StationsKnown s) (range : 1 ≤ q.set ∧ q.set ≤ 128)
    (address : 1 ≤ q.address ∧ q.address ≤ 64) (free : s.stationTaken q.set q.segment q.address = false) :
    StationsKnown (s.reconfigured q) := by
  refine h.moved q.set (some (configured q)) (fun k => ?_) (fun f a => ?_) (fun u hu => ?_) (fun u hu k v other hv => ?_)
  · rw [reconfigured_setRec s q range]
    split <;> rfl
  · refine (moveStation_station _ q.set address (fun u hu names => ?_) f a).trans ?_
    · obtain ⟨e1, e2⟩ := (names_iff u _ _).1 names
      rw [← e1, ← e2]
      exact (h.1 q.set u hu).2.2
    · exact if_congr (names_iff (configured q) f a).symm rfl rfl
  · cases hu
    exact address
  · cases hu
    have e := stationTaken_false free other hv
    exact fun names => absurd (e.symm.trans names) (by decide)

theorem configureNotices_tower (before : State) (n : Nat) (s : State) : TowerStep s (configureNotices before n s) := by
  unfold configureNotices
  split
  · exact (setNotices_tower before s).trans (columnChanged_tower before _ _)
  · exact stateNotices_tower before _ s

theorem serveConfigureSet_keeps {s : State} {q : ConfigureReq} (h : TowerLaws s) (form : formOk (.configureSet q) = true) :
    TowerLaws (serveConfigureSet q s).1 := by
  cases e : s.configureCheck q with
  | some r =>
    rw [serveConfigureSet_refused e]
    exact h
  | none =>
    rw [serveConfigureSet_taken e]
    obtain ⟨range, address⟩ := configureForm form
    obtain ⟨free, -, notLoop⟩ := configureCheck_none e
    have known := reconfigured_known h.1 range address free
    have lawful : SegmentsLawful (s.reconfigured q) :=
      moveStation_lawful (s := s.updSet q.set fun r => r.configure (configured q)) h.2.1 q.set q.segment address notLoop
    exact (redigest_towerLaws known lawful).step (configureNotices_tower s q.set _)

/-! ## RELEASE SET -/

/-- The tables of sets and stations that an accepted RELEASE SET writes. -/
def State.released (s : State) (n : Nat) : State := (s.updSet n fun _ => SetRec.vacant).dropStation (s.setRec n).setup

theorem serveReleaseSet_refused {n : Nat} {s : State} {r : Result} (h : s.releaseCheck n = some r) :
    serveReleaseSet n s = (s, Reply.of r) := by simp only [serveReleaseSet, h]

/-- The state of an accepted RELEASE SET before the COLUMN holds and the pass. -/
def State.releasedNoticed (s : State) (n : Nat) : State :=
  setNotices s ((s.released n).putFaultSummary n FaultSummary.reset).redigest

theorem serveReleaseSet_taken {n : Nat} {s : State} (h : s.releaseCheck n = none) :
    serveReleaseSet n s =
      ((if s.untrusted (.set n) then (s.releasedNoticed n).reevalColumns else s.releasedNoticed n).pass, Reply.of .done) := by
  simp only [serveReleaseSet, h]
  rfl

/-- What checks 1 and 5 of R18 leave: a configured set, whose segment is not in LOOP. -/
theorem releaseCheck_none {s : State} {n : Nat} (h : s.releaseCheck n = none) :
    ∃ u, (s.setRec n).setup = some u ∧ (s.bus u.rig.segment).state ≠ .loop := by
  unfold State.releaseCheck at h
  dsimp only at h
  split at h
  · cases h
  · rename_i configured
    obtain ⟨u, hu⟩ := Option.ne_none_iff_exists'.1 fun (e : (s.setRec n).setup = none) => configured (by rw [e]; rfl)
    refine ⟨u, hu, ?_⟩
    split at h
    · cases h
    · split at h
      · cases h
      · split at h
        · cases h
        · split at h
          · cases h
          · rename_i loops
            simpa [hu, State.inLoop] using loops

theorem configured_range {s : State} {n : Nat} {u : Setup} (h : (s.setRec n).setup = some u) : 1 ≤ n ∧ n ≤ 128 := by
  by_contra out
  rw [setRec_out s n out] at h
  cases h

theorem released_eq {s : State} {n : Nat} {u : Setup} (h : (s.setRec n).setup = some u) :
    s.released n = (s.updSet n fun _ => SetRec.vacant).stationLeaves u.rig.segment u.rig.address := by
  simp only [State.released, h, State.dropStation]

theorem released_frame (s : State) (n : Nat) :
    s.released n = { s with sets := (s.released n).sets, buses := (s.released n).buses } := by
  unfold State.released State.dropStation
  split
  · rw [stationLeaves_frame]
    rfl
  · rfl

theorem released_setRec {s : State} {n : Nat} {u : Setup} (h : (s.setRec n).setup = some u) (k : Nat) :
    (s.released n).setRec k = if k = n then SetRec.vacant else s.setRec k := by
  have range := configured_range h
  have sets : (s.released n).sets = (s.updSet n fun _ => SetRec.vacant).sets := by rw [released_eq h, stationLeaves_frame]
  rw [setRec_congr sets, setRec_updSet]
  simp only [range.1, range.2, and_self, and_true]

theorem released_station {s : State} {n : Nat} {u : Setup} (h : (s.setRec n).setup = some u) (f : Segment) (a : Nat) :
    (((s.released n).bus f).station a).set = if u.names f a then none else ((s.bus f).station a).set := by
  rw [released_eq h, stationLeaves_station]
  by_cases range : 1 ≤ a ∧ a ≤ 64
  · refine if_congr ⟨fun i => (names_iff u f a).2 ⟨i.1.symm, i.2.1.symm⟩, fun i => ?_⟩ rfl rfl
    obtain ⟨i1, i2⟩ := (names_iff u f a).1 i
    exact ⟨i1.symm, i2.symm, i2 ▸ range⟩
  · rw [station_out _ a range, station_out _ a range]
    exact (ite_self _).trans (ite_self _).symm

theorem released_known {s : State} {n : Nat} {u : Setup} (h : StationsKnown s) (hu : (s.setRec n).setup = some u) :
    StationsKnown (s.released n) := by
  refine h.moved n none (fun k => ?_) (fun f a => ?_) nofun nofun
  · rw [released_setRec hu]
    split <;> rfl
  · rw [released_station hu, hu]
    rfl

theorem serveReleaseSet_keeps {s : State} (h : TowerLaws s) (n : Nat) : TowerLaws (serveReleaseSet n s).1 := by
  cases e : s.releaseCheck n with
  | some r =>
    rw [serveReleaseSet_refused e]
    exact h
  | none =>
    rw [serveReleaseSet_taken e]
    obtain ⟨u, hu, notLoop⟩ := releaseCheck_none e
    have lawful : SegmentsLawful (s.released n) := by
      rw [released_eq hu]
      exact stationLeaves_lawful (s := s.updSet n fun _ => SetRec.vacant) h.2.1 _ notLoop
    have digested : TowerLaws ((s.released n).putFaultSummary n FaultSummary.reset).redigest :=
      redigest_towerLaws (s := (s.released n).putFaultSummary n FaultSummary.reset) (released_known h.1 hu) lawful
    have noticed : TowerLaws (s.releasedNoticed n) := digested.step (setNotices_tower s _)
    refine TowerLaws.step ?_ (pass_tower _)
    split
    · exact noticed.step (reevalColumns_tower _)
    · exact noticed

/-! ## REHANG -/

theorem serveRehang_refused {q : RehangReq} {s : State} {r : Reply} (h : s.rehangCheck q = some r) :
    serveRehang q s = (s, r) := by simp only [serveRehang, h]

/-- The notices of an accepted REHANG: the column of an untrusted mover, or a pass where the resting region shrank (R19). -/
def State.rehangNotices (s : State) (n : Nat) (t : State) : State :=
  if s.untrusted (s.moverOf n) then columnChanged s (s.moverOf n) t
  else passIf (restingShrank s t (s.moverOf n)) t

theorem serveRehang_taken {q : RehangReq} {s : State} (h : s.rehangCheck q = none) :
    serveRehang q s = (s.rehangNotices q.set (s.rehung q).redigest, Reply.of .done) := by
  simp only [serveRehang, h]
  rfl

theorem rehangNotices_frame (s : State) (n : Nat) (t : State) : PassFrame t (s.rehangNotices n t) := by
  unfold State.rehangNotices
  split
  · exact columnChanged_frame s _ t
  · exact passIf_frame _ t

theorem rehangNotices_tower (s : State) (n : Nat) (t : State) : TowerStep t (s.rehangNotices n t) := by
  unfold State.rehangNotices
  split
  · exact columnChanged_tower s _ t
  · exact passIf_tower _ t

theorem rehung_setup (s : State) (q : RehangReq) (k : Nat) :
    ((s.rehung q).setRec k).setup =
      if k = q.set then (s.setRec q.set).setup.map fun u => { u with hang := q.hang } else (s.setRec k).setup := by
  unfold State.rehung
  rw [setRec_updSet]
  by_cases e : k = q.set
  · subst e
    rw [if_pos rfl]
    split
    · rfl
    · rename_i out
      rw [setRec_out s q.set (fun r => out ⟨rfl, r⟩)]
      rfl
  · rw [if_neg e, if_neg fun h => e h.1]

theorem serveRehang_keeps {s : State} (h : TowerLaws s) (q : RehangReq) : TowerLaws (serveRehang q s).1 := by
  cases e : s.rehangCheck q with
  | some r =>
    rw [serveRehang_refused e]
    exact h
  | none =>
    rw [serveRehang_taken e]
    have rigs : ∀ k, ((s.rehung q).setRec k).setup.map Setup.rig = (s.setRec k).setup.map Setup.rig := fun k => by
      rw [rehung_setup]
      split
      · rename_i k
        rw [k, Option.map_map]
        rfl
      · rfl
    have known : StationsKnown (s.rehung q) := h.1.of_rigs rigs fun _ _ => rfl
    exact (redigest_towerLaws known h.2.1).step (rehangNotices_tower s _ _)

/-! ## BIND and UNBIND -/

theorem makeBond_frame (s : State) (b : Nat) (ns : List Nat) (skew : Nat) :
    s.makeBond b ns skew =
      { s with sets := (s.makeBond b ns skew).sets, bonds := Tab.put s.bonds b (some { members := ns, skew := skew, claim := none }) } := by
  unfold State.makeBond
  dsimp only
  rw [updSets_frame]

theorem makeBond_setRec (s : State) (b : Nat) (ns : List Nat) (skew k : Nat) :
    (s.makeBond b ns skew).setRec k = if k ∈ ns ∧ 1 ≤ k ∧ k ≤ 128 then { s.setRec k with bond := some b } else s.setRec k :=
  setRec_updSets s ns (fun _ r => { r with bond := some b }) (fun _ _ => rfl) k

theorem freeBond_frame (s : State) (b : Nat) (x : BondRec) :
    s.freeBond b x = { s with sets := (s.freeBond b x).sets, bonds := Tab.put s.bonds b none } := by
  unfold State.freeBond
  dsimp only
  rw [updSets_frame]

theorem freeBond_setRec (s : State) (b : Nat) (x : BondRec) (k : Nat) :
    (s.freeBond b x).setRec k = if k ∈ x.members ∧ 1 ≤ k ∧ k ≤ 128 then { s.setRec k with bond := none } else s.setRec k :=
  setRec_updSets s x.members (fun _ r => { r with bond := none }) (fun _ _ => rfl) k

/-- The laws after a bond is made or freed and the digest recomputed. -/
theorem rebound_towerLaws {s t : State} (h : TowerLaws s) (setups : ∀ k, (t.setRec k).setup = (s.setRec k).setup)
    (buses : t.buses = s.buses) : TowerLaws t.redigest := by
  have known : StationsKnown t := h.1.of_rigs (fun k => by rw [setups]) fun f a => by rw [bus_congr buses]
  have lawful : SegmentsLawful t := fun f => by
    rw [bus_congr buses]
    exact h.2.1 f
  exact redigest_towerLaws known lawful

theorem serveBind_keeps {s : State} (h : TowerLaws s) (q : BindReq) : TowerLaws (serveBind q s).1 := by
  unfold serveBind
  dsimp only
  split
  · exact h
  · split
    · exact h
    · split
      · exact h
      · refine rebound_towerLaws h (fun k => ?_) (by rw [makeBond_frame])
        rw [makeBond_setRec]
        split <;> rfl

theorem serveUnbind_noSuch {b : Nat} {s : State} (h : s.bond? b = none) : serveUnbind b s = (s, Reply.of .noSuch) := by
  simp only [serveUnbind, h]

theorem serveUnbind_refused {b : Nat} {s : State} {x : BondRec} {r : Reply} (h : s.bond? b = some x) (k : s.unbindCheck x = some r) :
    serveUnbind b s = (s, r) := by simp only [serveUnbind, h, k]

/-- The notices of an accepted UNBIND: the columns of an untrusted bond's members, and a pass (R23). -/
def State.unbindNotices (s : State) (b : Nat) (x : BondRec) (t : State) : State :=
  (if s.untrusted (.bond b) then (t.raiseMemberColumns x.members).reevalColumns else t).pass

theorem serveUnbind_taken {b : Nat} {s : State} {x : BondRec} (h : s.bond? b = some x) (k : s.unbindCheck x = none) :
    serveUnbind b s = (s.unbindNotices b x (s.freeBond b x).redigest, Reply.of .done) := by
  simp only [serveUnbind, h, k]
  rfl

theorem unbindNotices_granting (s : State) (b : Nat) (x : BondRec) (t : State) :
    ∃ u, u = { t with claims := u.claims } ∧ Granting u (s.unbindNotices b x t) := by
  unfold State.unbindNotices
  refine ⟨_, ?_, pass_granting _⟩
  split
  · rw [reevalColumns_frame, raiseMemberColumns_frame]
  · rfl

theorem unbindNotices_tower (s : State) (b : Nat) (x : BondRec) (t : State) : TowerStep t (s.unbindNotices b x t) := by
  obtain ⟨u, frame, granting⟩ := unbindNotices_granting s b x t
  have raised : TowerStep t u := .of_frame frame rfl
  exact raised.trans granting.tower

theorem serveUnbind_keeps {s : State} (h : TowerLaws s) (b : Nat) : TowerLaws (serveUnbind b s).1 := by
  cases hb : s.bond? b with
  | none =>
    rw [serveUnbind_noSuch hb]
    exact h
  | some x =>
    cases e : s.unbindCheck x with
    | some r =>
      rw [serveUnbind_refused hb e]
      exact h
    | none =>
      rw [serveUnbind_taken hb e]
      refine TowerLaws.step (rebound_towerLaws h (fun k => ?_) (by rw [freeBond_frame])) (unbindNotices_tower s b x _)
      rw [freeBond_setRec]
      split <;> rfl

/-! ## Locks and REINSTATE -/

theorem setLock_tower (s : State) (n : Nat) (b : Bool) : TowerStep s (s.setLock n b) := updSet_tower s n _ rfl

theorem setRec_mapSets (s : State) (f : SetRec → SetRec) (vacant : f SetRec.vacant = SetRec.vacant) (n : Nat) :
    ({ s with sets := s.sets.map f } : State).setRec n = f (s.setRec n) := by
  unfold State.setRec
  dsimp only
  rw [Tab.get?_map]
  cases Tab.get? s.sets n with
  | none => exact vacant.symm
  | some r => rfl

theorem serveLockHang_tower (n : Option Nat) (s : State) : TowerStep s (serveLockHang n s).1 := by
  cases n with
  | some k =>
    unfold serveLockHang
    dsimp only
    split
    · exact .refl s
    · exact setLock_tower s k true
  | none =>
    refine .of_sets rfl fun k => (congrArg SetRec.setup (setRec_mapSets s _ rfl k)).trans ?_
    split <;> rfl

theorem serveUnlockHang_tower (n : Option Nat) (s : State) : TowerStep s (serveUnlockHang n s).1 := by
  cases n with
  | some k => exact setLock_tower s k false
  | none => exact .of_sets rfl fun k => (congrArg SetRec.setup (setRec_mapSets s _ rfl k)).trans rfl

theorem serveReinstate_tower (n : Nat) (s : State) : TowerStep s (serveReinstate n s).1 := by
  unfold serveReinstate
  split
  · exact .refl s
  · exact updSet_tower s n _ rfl

end Sys2Proof.Machine
end

section
/-! SUPPORT. What a cold reset leaves in each table. -/

namespace Sys2Proof.Machine

/-! ## Tables of one value -/

theorem Tab.get?_replicate {α : Type} (k n : Nat) (x : α) : (Tab.get? (Vector.replicate k x) n).getD x = x := by
  unfold Tab.get?
  split
  · rfl
  · rw [Vector.getElem?_replicate]
    split <;> rfl

theorem Tab.record?_replicate {α : Type} (k n : Nat) : Tab.record? (Vector.replicate k (none : Option α)) n = none := by
  have h := Tab.get?_replicate k n (none : Option α)
  unfold Tab.record?
  cases e : Tab.get? (Vector.replicate k (none : Option α)) n with
  | none => rfl
  | some x =>
    rw [e] at h
    rw [show x = none from h]
    rfl

/-! ## The tables after a cold reset -/

section
variable (p : ResetPins) (waiting : List Instr)

@[simp] theorem coldReset_setRec (n : Nat) : (State.coldReset p waiting).setRec n = SetRec.vacant := Tab.get?_replicate 128 n _
@[simp] theorem coldReset_bond? (b : Nat) : (State.coldReset p waiting).bond? b = none := Tab.record?_replicate 16 b
@[simp] theorem coldReset_group? (g : Nat) : (State.coldReset p waiting).group? g = none := Tab.record?_replicate 24 g
@[simp] theorem coldReset_keepout? (n : Nat) : Tab.record? (State.coldReset p waiting).keepouts n = none :=
  Tab.record?_replicate 16 n
@[simp] theorem coldReset_bus (f : Segment) : (State.coldReset p waiting).bus f = Bus.reset := by cases f <;> rfl
@[simp] theorem coldReset_faultSummary (n : Nat) : (State.coldReset p waiting).faultSummary n = FaultSummary.reset :=
  Tab.get?_replicate 128 n _
@[simp] theorem coldReset_claims : (State.coldReset p waiting).claims = [] := rfl
@[simp] theorem reset_station (a : Nat) : Bus.reset.station a = Station.reset := Tab.get?_replicate 64 a _

/-- Every link is reset with some role. -/
theorem coldReset_link (l : Link) : ∃ role, (State.coldReset p waiting).link l = LinkRec.reset role := by
  cases l <;> exact ⟨_, rfl⟩

@[simp] theorem coldReset_count (n : Nat) : (State.coldReset p waiting).attention.count n = 0 := by
  show ((Vector.replicate 20 0)[n]?).getD 0 = 0
  rw [Vector.getElem?_replicate]
  split <;> rfl

end

theorem flatMap_replicate {α β : Type} (as : List α) (k : Nat) (x : β) :
    (as.flatMap fun _ => List.replicate k x) = List.replicate (as.length * k) x := by
  induction as with
  | nil => simp
  | cons a as ih => rw [List.flatMap_cons, ih, List.replicate_append_replicate, List.length_cons, Nat.succ_mul, Nat.add_comm]

theorem digestSetImage_none : digestSetImage none = List.replicate 24 0#8 := by decide

theorem coldReset_digest (p : ResetPins) (waiting : List Instr) : DigestCurrent (State.coldReset p waiting) := by
  refine congrArg crc32 ?_
  simp only [coldReset_setRec, coldReset_bond?, SetRec.vacant, digestSetImage_none, digestBondImage, flatMap_replicate,
    List.replicate_append_replicate, Tab.numbers, List.length_range']

theorem reset_configured : Bus.reset.configured = [] := (configured_eq_nil _).2 fun a _ _ => by rw [reset_station]; rfl

theorem coldReset_tower (p : ResetPins) (waiting : List Instr) : TowerLaws (State.coldReset p waiting) := by
  refine ⟨⟨fun n u hu => ?_, fun f a n hn => ?_⟩, ?_, coldReset_digest p waiting⟩
  · rw [coldReset_setRec] at hu
    cases hu
  · rw [coldReset_bus, reset_station] at hn
    cases hn
  · rw [segmentsLawful_iff]
    intro f
    rw [coldReset_bus]
    exact ⟨fun _ => reset_configured, fun i => by simp [Bus.reset] at i, nofun⟩

end Sys2Proof.Machine
end

section
/-! PROOF. The laws of the Set Registry and the fly bus controllers are kept by every step (O57). -/

namespace Sys2Proof.Machine

/-! ## The owner's step -/

theorem serve_keepsTower {s : State} (h : TowerLaws s) (l : Link) {r : Request} (form : formOk r = true) :
    TowerLaws (serve l r s).1 := by
  cases r with
  | configureSet q => exact serveConfigureSet_keeps h form
  | releaseSet n => exact serveReleaseSet_keeps h n
  | rehang q => exact serveRehang_keeps h q
  | bind q => exact serveBind_keeps h q
  | unbind b => exact serveUnbind_keeps h b
  | stop => exact h.step (serveStop_tower s)
  | holdAll => exact h.step (serveHoldAll_tower s)
  | holdClaim n => exact h.step (serveHoldClaim_tower n s)
  | releaseAll => exact h.step (serveReleaseAll_tower s)
  | resume => exact h.step (serveResume_tower s)
  | claim q => exact h.step (serveClaim_tower l q s)
  | retarget q => exact h.step (serveRetarget_tower l q s)
  | retire n => exact h.step (serveRetire_tower l n s)
  | releaseClaim n => exact h.step (serveReleaseClaim_tower l n s)
  | addKeepout q => exact h.step (serveAddKeepout_tower q s)
  | retireKeepout n => exact h.step (serveRetireKeepout_tower n s)
  | warmRestart => exact h.step (serveWarmRestart_tower s)
  | adopt n => exact h.step (serveAdopt_tower l n s)
  | openGroup q => exact h.step (serveOpenGroup_tower l q s)
  | closeGroup g => exact h.step (serveCloseGroup_tower l g s)
  | cancelGroup g => exact h.step (serveCancelGroup_tower l g s)
  | lockHang n => exact h.step (serveLockHang_tower n s)
  | unlockHang n => exact h.step (serveUnlockHang_tower n s)
  | reinstate n => exact h.step (serveReinstate_tower n s)
  | loopTest f => exact h.step (serveLoopTest_tower f s)
  | clearAttention q => exact h.step (serveClearAttention_tower q s)
  | clearFaults n => exact h.step (serveClearFaults_tower n s)
  | setParameter p v => exact h.step (serveSetParameter_tower p v s)
  | presence => exact h
  | listClaims q => exact h
  | lookupSet n => exact h
  | readDigest => exact h
  | readAttention => exact h
  | lookupClaim n => exact h.step (onClaim_tower s n _ fun _ => .refl s)
  | lookupKeepout n => exact h.step (serveLookupKeepout_tower n s)
  | lookupGroup g => exact h.step (serveLookupGroup_tower g s)
  | lookupBond b => exact h.step (serveLookupBond_tower b s)
  | lookupSegment f => exact h.step (serveLookupSegment_tower f s)
  | lookupStation f a => exact h.step (serveLookupStation_tower f a s)
  | readParameter p => exact h.step (serveReadParameter_tower p s)

theorem answer_keepsTower {s : State} (h : TowerLaws s) (l : Link) (r : Request) : TowerLaws (answer l r s).1 := by
  unfold answer
  split
  · exact h
  · split
    · exact h
    · rename_i form
      exact serve_keepsTower h l (by simpa using form)

theorem answerFrame_keepsTower {s : State} (h : TowerLaws s) (l : Link) (x : Frame) : TowerLaws (answerFrame l x s).1 := by
  unfold answerFrame
  split
  · exact h
  · split
    · exact h
    · split
      · exact h
      · exact answer_keepsTower h l _

/-! ## Requests taken -/

theorem queueReply_tower (l : Link) (k : Byte) (tag : Word16) (p : State × Reply) : TowerStep p.1 (queueReply l k tag p) :=
  .of_frame (queueReply_frame l k tag p) rfl

theorem slotReply_tower (l : Link) (k : Byte) (tag : Word16) (b : Bool) (p : State × Reply) :
    TowerStep p.1 (slotReply l k tag b p) := .of_frame (answerPriority_frame p.1 l _) rfl

theorem takeRegular_keepsTower {s : State} (h : TowerLaws s) (l : Link) (tag : Word16) (r : Request) :
    TowerLaws (takeRegular l tag r s) := by
  unfold takeRegular
  split
  · exact (answer_keepsTower h l r).step (queueReply_tower l _ tag _)
  · exact h

theorem takePriority_keepsTower {s : State} (h : TowerLaws s) (l : Link) (tag : Word16) (r : Request) :
    TowerLaws (takePriority l tag r s) := by
  unfold takePriority
  split
  · exact (answer_keepsTower h l r).step (slotReply_tower l _ tag _ _)
  · exact h

theorem takeSlot_keepsTower {s : State} (h : TowerLaws s) (l : Link) : TowerLaws (s.takeSlot l) := by
  unfold State.takeSlot
  split
  · exact h
  · split
    · exact (answerFrame_keepsTower (h.step (updLink_tower s l _)) l _).step (slotReply_tower l _ _ _ _)
    · exact h

theorem takePosted_keepsTower {s : State} (h : TowerLaws s) (l : Link) : TowerLaws (s.takePosted l) := by
  unfold State.takePosted
  split
  · exact h
  · split
    · split
      · exact (answerFrame_keepsTower (h.step (updLink_tower s l _)) l _).step (queueReply_tower l _ _ _)
      · exact h
    · exact h
    · exact h

theorem placeFrame_keepsTower {s : State} (h : TowerLaws s) (l : Link) (d : Destination) (r : Frame) :
    TowerLaws (s.placeFrame l d r) := by
  cases d with
  | layer n => exact h.step (updLink_tower s l fun x => x.post n r)
  | overrun => exact h.step (latch_tower _ s)
  | slot => exact takeSlot_keepsTower (h.step (updLink_tower s l _)) l

theorem frameEnd_keepsTower {s : State} (h : TowerLaws s) (l : Link) (rest : List Byte) (e : Bool) :
    TowerLaws (s.frameEnd l rest e) := by
  unfold State.frameEnd
  split
  · exact h
  · have received := h.step (updLink_tower s l fun r => { r with receiving := none })
    dsimp only
    split
    · exact placeFrame_keepsTower (received.step (presenceEvent_tower _ l)) l _ _
    · exact received.step (updLink_tower _ l _)

/-! ## The events -/

theorem missPoll_tower (s : State) (f : Segment) (k : MissKind) : TowerStep s (s.missPoll f k) :=
  onPoll_tower s f _ fun p => judgeMiss_tower s f p k

theorem channelEvent_tower (s : State) (c : Channel) (low : Bool) : TowerStep s (s.channelEvent c low) := by
  have changed := updStop_tower s fun x => x.putChannel c low
  unfold State.channelEvent
  split
  · exact .refl s
  · dsimp only
    split
    · split
      · exact changed
      · exact changed.trans (enterStopped_tower _)
    · split
      · exact changed.trans (updStop_tower _ _)
      · exact changed

theorem presenceExpiry_tower (s : State) (l : Link) : TowerStep s (s.presenceExpiry l) := by
  unfold State.presenceExpiry
  split
  · exact .refl s
  · exact (elapse_tower _ s).trans ((updLink_tower _ l _).trans ((holdWhere_tower _ _ _).trans
      ((regroup_tower _).trans (latch_tower _ _))))

theorem stallExpiry_tower (s : State) (n : Nat) : TowerStep s (s.stallExpiry n) := by
  unfold State.stallExpiry
  split
  · exact .refl s
  · split
    · exact .refl s
    · exact (elapse_tower _ s).trans (faultClaim_tower _ _ _)

theorem stopRunOut_tower (s : State) (n : Nat) : TowerStep s (s.stopRunOut n) := by
  unfold State.stopRunOut
  split
  · exact .refl s
  · split
    · exact .refl s
    · dsimp only
      split
      · exact ((elapse_tower _ s).trans (updClaim_tower _ n _)).trans (faultClaim_tower _ _ _)
      · exact (elapse_tower _ s).trans (updClaim_tower _ n _)

theorem deadlineExpiry_tower (s : State) (n : Nat) : TowerStep s (s.deadlineExpiry n) := by
  unfold State.deadlineExpiry
  split
  · exact .refl s
  · split <;> exact .of_frame rfl rfl

theorem waitExpiry_tower (s : State) (n : Nat) : TowerStep s (s.waitExpiry n) := by
  unfold State.waitExpiry
  split
  · exact .refl s
  · split
    · exact .refl s
    · exact (elapse_tower _ s).trans ((removeWaiting_tower _ _).trans (latch_tower _ _))

theorem groupExpiry_tower (s : State) (g : Nat) : TowerStep s (s.groupExpiry g) := by
  unfold State.groupExpiry
  split
  · exact .refl s
  · split
    · exact .refl s
    · exact (elapse_tower _ s).trans ((dissolveGroup_tower _ g _).trans (latch_tower _ _))

theorem discrepancyExpiry_tower (s : State) : TowerStep s s.discrepancyExpiry := by
  unfold State.discrepancyExpiry
  split <;> exact .of_frame rfl rfl

/-! ## Every step -/

theorem exec_keepsTower {s t : State} (h : TowerLaws s) (i : Instr) (step : exec i s = .next t) : TowerLaws t := by
  cases i <;> cases step
  case unknownRequest l tag k =>
    split
    · exact h.step (queueReply_tower l k tag (s, _))
    · exact h
  case deskFrameBegin l b => exact h.step (updLink_tower s l _)
  case deskFrameEnd l rest e => exact frameEnd_keepsTower h l rest e
  case postedRequestTaken l => exact takePosted_keepsTower h l
  case priorityRequestTaken l => exact takeSlot_keepsTower h l
  case responseTransmitStart l => exact h.step (updLink_tower s l _)
  case responseTransmitEnd l => exact h.step (updLink_tower s l _)
  case presenceWindowExpiry l => exact h.step (presenceExpiry_tower s l)
  case pollBuild f => exact h.step (pollBuild_tower s f)
  case responseWindowExpiry f => exact h.step (missPoll_tower s f _)
  case reportGapExpiry f => exact h.step (missPoll_tower s f _)
  case reportComplete f r => exact h.step (reportComplete_tower s f r)
  case reportUnreadable f why => exact h.step (missPoll_tower s f _)
  case setReport f => exact h.step (takeSetReport_tower s f)
  case identReport f => exact h.step (takeIdent_tower s f)
  case faultSummaryOutcome f => exact h.step (takeOutcome_tower s f)
  case tmPollOutcome f => exact h.step (takeTravel_tower s f)
  case freshFlagClearedNotice f => exact h.step (takeFreshNotice_tower s f)
  case stallTimerExpiry n => exact h.step (stallExpiry_tower s n)
  case stopWindowRunOut n => exact h.step (stopRunOut_tower s n)
  case deadlineExpiry n => exact h.step (deadlineExpiry_tower s n)
  case waitLimitExpiry n => exact h.step (waitExpiry_tower s n)
  case groupWaitLimitExpiry g => exact h.step (groupExpiry_tower s g)
  case estopChannelEvent c low => exact h.step (channelEvent_tower s c low)
  case discrepancyTimerExpiry => exact h.step (discrepancyExpiry_tower s)
  case breakDetected f => exact h.step (breakDetected_tower s f)
  case breakEnd f => exact h.step (breakEnd_tower s f)
  case testFrameCompared f cs => exact testFrame_keeps h f cs
  case coldReset p => exact coldReset_tower p s.pending
  case presence l tag => exact takePriority_keepsTower h l tag _
  case stop l tag => exact takePriority_keepsTower h l tag _
  case holdAll l tag => exact takePriority_keepsTower h l tag _
  case holdClaim l tag n => exact takePriority_keepsTower h l tag _
  all_goals exact takeRegular_keepsTower h _ _ _

theorem withPending_tower (s : State) (waiting : List Instr) : TowerStep s (s.withPending waiting) := .of_frame rfl rfl

/-- Settles O57: every command is a TowerStep, or one of the Set Registry's writes followed by a recomputed digest. -/
theorem towerLawsKept : Obligations.TowerLawsKept := by
  refine ⟨fun s t h st => ?_, fun s n k u v h hu hv segment address => h.injective hu hv segment address⟩
  unfold Machine.step at st
  split at st
  · cases st
    exact h.step (elapse_tower 1 s)
  · exact exec_keepsTower (h.step (withPending_tower s _)) _ st

end Sys2Proof.Machine
end

section
/-! PROOF. Regions of a set (O22, O23), READ DIGEST (O6) and the state after cold reset (O55, O60). -/

namespace Sys2Proof.Machine

/-! ## Regions -/

theorem within_iff (a b : Region) : a.within b = true ↔
    b.depthLo ≤ a.depthLo ∧ a.depthHi ≤ b.depthHi ∧ b.heightLo ≤ a.heightLo ∧ a.heightHi ≤ b.heightHi := by
  simp [Region.within, and_assoc]

/-- Settles O22, from the bounds of the two regions. -/
theorem columnOfASet : Obligations.ColumnOfASet := by
  intro u clr p
  refine ⟨rfl, rfl, rfl, rfl, fun lower upper => ?_⟩
  refine (within_iff _ _).2 ⟨Int.le_refl _, Int.le_refl _, ?_, ?_⟩
  · show (u.rig.lower : Int) - u.hang.drop - clr ≤ p - u.hang.drop - clr
    omega
  · show p + u.hang.top + clr ≤ (u.rig.upper : Int) + u.hang.top + clr
    omega

/-- The ceiling of a division by a positive number is the least bound (R2). -/
theorem ceilDiv_le_iff {a b : Nat} (h : 0 < b) (k : Nat) : ceilDiv a b ≤ k ↔ a ≤ b * k := by
  unfold ceilDiv
  rw [← Nat.lt_succ_iff, Nat.div_lt_iff_lt_mul h, Nat.succ_mul, Nat.mul_comm k b]
  omega

theorem allowance_auto {u : Setup} (h : u.rig.stopMode = .auto) (v : Nat) : u.allowance v = ceilDiv (v * u.rig.stopConstant) 2000 := by
  simp only [Setup.allowance, h]

theorem allowance_fixed {u : Setup} (h : u.rig.stopMode = .fixed) (v : Nat) : u.allowance v = u.rig.fixedAllowance.getD 0 := by
  simp only [Setup.allowance, h]

/-- Settles O23: the AUTO allowance is a ceiling, and a ceiling is the least bound. -/
theorem regionsOfASet : Obligations.RegionsOfASet := by
  refine ⟨fun u clr p => rfl, fun u v auto => ?_, fun u v a fixed allowance => ?_, fun u clr v a b => ⟨rfl, rfl⟩⟩
  · rw [allowance_auto auto]
    exact ⟨(ceilDiv_le_iff (by decide) _).1 (Nat.le_refl _), fun k hk => (ceilDiv_le_iff (by decide) k).2 hk⟩
  · rw [allowance_fixed fixed, allowance]
    rfl

/-! ## READ DIGEST -/

theorem configuredSets_eq (s : State) :
    s.configuredSets = (List.range' 1 128).countP fun n => (s.setRec n).setup.isSome := List.countP_eq_length_filter.symm

theorem usedBonds_eq (s : State) : Tab.used s.bonds = (List.range' 1 16).countP fun b => (s.bond? b).isSome :=
  List.countP_eq_length_filter.symm

theorem digestImage_eq (s : State) : s.digestImage = bytes32 s.digest ++
    [byteOf ((List.range' 1 128).countP fun n => (s.setRec n).setup.isSome),
     byteOf ((List.range' 1 16).countP fun b => (s.bond? b).isSome)] := by
  rw [State.digestImage, configuredSets_eq, usedBonds_eq, List.append_assoc]
  rfl

/-- Settles O6. -/
theorem readDigestAnswers : Obligations.ReadDigestAnswers := by
  intro l tag s desk
  refine ⟨_, rfl, ?_⟩
  rw [takeRegular_lookup tag desk (by decide) rfl, ← digestImage_eq]
  exact answerOnly_queueReply s l 43 tag _

/-! ## Cold reset -/

/-- No source is latched after a cold reset, so neither output is asserted. -/
theorem coldReset_output (p : ResetPins) (waiting : List Instr) (r : Routing) :
    (State.coldReset p waiting).attention.output r = false := by
  refine List.any_eq_false.2 fun n _ => ?_
  simp [AttentionRec.asserts, AttentionRec.latched]

theorem stopReset_eq (a b : Bool) : StopRec.reset a b =
    { state := if a = false ∧ b = false then .latched else .stopped, holdAll := false, channelA := a, channelB := b
      discrepancy := if a = b then none else some 0, mark := false } := by
  cases a <;> cases b <;> rfl

/-- Settles O55, table by table. -/
theorem coldResetOfTheOtherBlocks : Obligations.ColdResetOfTheOtherBlocks := by
  refine ⟨fun p s => ?_, fun a b => ?_, fun s => rfl⟩
  · refine ⟨State.coldReset p s.pending, rfl, rfl, coldReset_setRec p _, coldReset_bond? p _, rfl, coldReset_group? p _,
      fun f => ?_, stopReset_eq _ _, rfl, rfl, rfl, fun l => ?_, coldReset_count p _, rfl, rfl, coldReset_faultSummary p _,
      coldReset_output p _ _, coldReset_output p _ _⟩
    · rw [coldReset_bus]
      exact ⟨rfl, rfl, rfl, rfl, rfl, rfl, rfl, reset_station⟩
    · obtain ⟨role, e⟩ := coldReset_link p s.pending l
      rw [e]
      exact ⟨rfl, rfl, rfl, rfl, rfl, rfl, rfl⟩
  · cases a <;> cases b <;> rfl

/-! ## The laws at reset -/

section
variable (p : ResetPins) (waiting : List Instr)

theorem coldReset_noClaim (c : ClaimRec) : c ∉ (State.coldReset p waiting).claims := by
  rw [coldReset_claims]
  exact List.not_mem_nil

theorem coldReset_claimLaws : ClaimLaws (State.coldReset p waiting) := by
  refine ⟨⟨List.nodup_nil, fun c hc => ?_⟩, fun c hc => ?_, fun c hc => ?_, ⟨fun h => ?_, fun h => ?_⟩,
    ⟨fun g x hx => ?_, fun c hc => ?_⟩⟩
  · exact absurd hc (coldReset_noClaim p waiting c)
  · exact absurd hc (coldReset_noClaim p waiting c)
  · exact absurd hc (coldReset_noClaim p waiting c)
  · have state : (State.coldReset p waiting).stop.state = resetStopState p.estopALow p.estopBLow := rfl
    rw [state, resetStopState] at h
    split at h
    · exact absurd rfl h
    · rename_i inactive
      have channels : p.estopALow = false ∧ p.estopBLow = false := by simpa using inactive
      exact channels
  · intro same
    have discrepancy : (State.coldReset p waiting).stop.discrepancy = none := if_pos same
    rw [discrepancy] at h
    cases h
  · rw [coldReset_group?] at hx
    cases hx
  · exact absurd hc (coldReset_noClaim p waiting c)

theorem coldReset_groupLaws : GroupLaws (State.coldReset p waiting) :=
  ⟨fun c hc => absurd hc (coldReset_noClaim p waiting c), fun c hc => absurd hc (coldReset_noClaim p waiting c)⟩

theorem coldReset_bounds : Bounds (State.coldReset p waiting) := by
  have parameters : (150 ≤ 1000 ∧ (1 ≤ 144 ∧ 144 ≤ 160)) ∧ (1 ≤ 4 ∧ 4 ≤ 8) ∧ 0 ≤ 8 ∧ (5 ≤ 20 ∧ 20 ≤ 100) ∧ (100 ≤ 300 ∧ 300 ≤ 1000) := by
    decide
  obtain ⟨⟨clearance, nearFull⟩, weight, served, drift, window⟩ := parameters
  refine ⟨⟨clearance, nearFull, fun l => ?_, served, drift, fun f => ?_, fun l => ?_, fun n => ?_⟩, fun f a => ?_, fun l => ?_⟩
  · cases l <;> exact weight
  · rw [coldReset_bus]
    decide
  · obtain ⟨role, e⟩ := coldReset_link p waiting l
    rw [e]
    exact window
  · rw [coldReset_count]
    exact Nat.zero_le _
  · rw [coldReset_bus, reset_station]
    decide
  · obtain ⟨role, e⟩ := coldReset_link p waiting l
    rw [e]
    exact ⟨Nat.zero_le _, fun _ => ⟨rfl, rfl, rfl, rfl, rfl, rfl, rfl, rfl, rfl, rfl⟩⟩

theorem coldReset_airLaws : AirLaws (State.coldReset p waiting) := by
  refine ⟨⟨fun b x hx => ?_, fun n b hb => ?_⟩, fun n => ?_,
    ⟨List.nodup_nil, fun b x hx => ?_, fun c hc => absurd hc (coldReset_noClaim p waiting c)⟩⟩
  · rw [coldReset_bond?] at hx
    cases hx
  · rw [coldReset_setRec] at hb
    cases hb
  · rw [coldReset_setRec]
    exact ⟨⟨fun _ => rfl, fun _ => rfl⟩, fun _ => ⟨rfl, rfl⟩, fun h => by simp [SetRec.vacant] at h, fun h => absurd rfl h⟩
  · rw [coldReset_bond?] at hx
    cases hx

theorem coldReset_movers : (State.coldReset p waiting).movers = [] :=
  List.filterMap_eq_nil_iff.2 fun n _ => by
    unfold State.moverAt
    rw [coldReset_setRec]
    rfl

theorem coldReset_separated : Separated (State.coldReset p waiting) := by
  refine ⟨fun m hm => ?_, fun m hm => ?_, fun n k x y _ hx => ?_⟩
  · rw [coldReset_movers] at hm
    cases hm
  · rw [coldReset_movers] at hm
    cases hm
  · rw [coldReset_keepout?] at hx
    cases hx

theorem coldReset_restsInside : RestsInside (State.coldReset p waiting) := by
  refine ⟨fun c hc => absurd hc (coldReset_noClaim p waiting c), fun b x hx => ?_⟩
  rw [coldReset_bond?] at hx
  cases hx

end

/-- Settles O60, law by law. -/
theorem lawsHoldAtReset : Obligations.LawsHoldAtReset := fun p waiting =>
  ⟨coldReset_claimLaws p waiting, coldReset_groupLaws p waiting, coldReset_tower p waiting, coldReset_bounds p waiting,
    coldReset_airLaws p waiting, coldReset_restsInside p waiting, coldReset_separated p waiting⟩

end Sys2Proof.Machine
end

section
/-! PROOF. Locks and REINSTATE (O45), CONFIGURE SET (O43), RELEASE SET and REHANG (O44): each request taken, its records and its response. -/

namespace Sys2Proof.Machine

/-! ## A FULL desk's request -/

/-- A FULL desk's request in good form: the owner's step and its reply queued. -/
theorem exec_taken {i : Instr} {l : Link} {tag : Word16} {r : Request} {s u : State} {y : Reply} (desk : FullDesk s l)
    (request : exec i s = .next (takeRegular l tag r s)) (form : formOk r = true) (step : serve l r s = (u, y)) :
    exec i s = .next (queueReply l (byteOf (kindOf r)) tag (u, y)) := by
  rw [request, takeRegular_full tag desk form, step]

/-- A FULL desk's request that its owner answers without a change of the records. -/
theorem exec_answerOnly {i : Instr} {l : Link} {tag : Word16} {r : Request} {s : State} {y : Reply} (desk : FullDesk s l)
    (request : exec i s = .next (takeRegular l tag r s)) (form : formOk r = true) (step : serve l r s = (s, y)) :
    ∃ t, exec i s = .next t ∧ AnswerOnly s t l (kindOf r) tag y :=
  ⟨_, exec_taken desk request form step, answerOnly_queueReply s l _ tag y⟩

theorem between_iff (lo hi n : Nat) : between lo hi n = true ↔ lo ≤ n ∧ n ≤ hi := by simp [between]

theorem optBetween_of_forall {lo hi : Nat} {x : Option Nat} (h : ∀ n, x = some n → lo ≤ n ∧ n ≤ hi) : optBetween lo hi x = true :=
  (Option.all_eq_true _ _).2 fun n hn => (between_iff lo hi n).2 (h n hn)

/-! ## Locks and REINSTATE -/

theorem serveLockHang_vacant {n : Nat} {s : State} (h : (s.setRec n).setup = none) :
    serveLockHang (some n) s = (s, Reply.of .setVacant) := by simp [serveLockHang, h]

theorem serveLockHang_set {n : Nat} {s : State} (h : (s.setRec n).setup ≠ none) :
    serveLockHang (some n) s = (s.setLock n true, Reply.of .done) := by simp [serveLockHang, h]

theorem setLock_setRec (s : State) {n : Nat} (range : 1 ≤ n ∧ n ≤ 128) (b : Bool) (k : Nat) :
    (s.setLock n b).setRec k = if k = n then { s.setRec k with locked := b } else s.setRec k := by
  unfold State.setLock
  rw [setRec_updSet]
  by_cases e : k = n
  · rw [if_pos ⟨e, range⟩, if_pos e, e]
  · rw [if_neg e, if_neg fun h => e h.1]

/-- LOCK HANG of the sets it names: what it writes, and that it leaves the links alone. -/
theorem serveLockHang_done {x : Option Nat} {s : State} (range : ∀ n, x = some n → 1 ≤ n ∧ n ≤ 128)
    (occupied : ∀ n, x = some n → (s.setRec n).setup ≠ none) :
    ∃ u, serveLockHang x s = (u, Reply.of .done) ∧ u = { s with sets := u.sets } ∧
      ∀ k, u.setRec k = if (s.setRec k).setup ≠ none ∧ (x = none ∨ x = some k)
        then { s.setRec k with locked := true } else s.setRec k := by
  cases x with
  | some n =>
    have set := occupied n rfl
    refine ⟨_, serveLockHang_set set, rfl, fun k => ?_⟩
    rw [setLock_setRec s (range n rfl)]
    refine if_congr ⟨?_, fun h => ?_⟩ rfl rfl
    · rintro rfl
      exact ⟨set, .inr rfl⟩
    · simpa [eq_comm] using h.2
  | none =>
    refine ⟨_, rfl, rfl, fun k => (setRec_mapSets s _ rfl k).trans ?_⟩
    simp [Option.isSome_iff_ne_none]

/-- UNLOCK HANG of the sets it names. -/
theorem serveUnlockHang_done {x : Option Nat} {s : State} (range : ∀ n, x = some n → 1 ≤ n ∧ n ≤ 128) :
    ∃ u, serveUnlockHang x s = (u, Reply.of .done) ∧ u = { s with sets := u.sets } ∧
      ∀ k, u.setRec k = if x = none ∨ x = some k then { s.setRec k with locked := false } else s.setRec k := by
  cases x with
  | some n =>
    refine ⟨_, rfl, rfl, fun k => ?_⟩
    rw [setLock_setRec s (range n rfl)]
    exact if_congr (by simp [eq_comm]) rfl rfl
  | none => exact ⟨_, rfl, rfl, fun k => (setRec_mapSets s _ rfl k).trans (if_pos (.inl rfl)).symm⟩

theorem serveReinstate_refused {n : Nat} {s : State} (h : (s.setRec n).state ≠ .barred) :
    serveReinstate n s = (s, Reply.of .wrongState) := if_pos h

theorem serveReinstate_taken {n : Nat} {s : State} (h : (s.setRec n).state = .barred) :
    serveReinstate n s = (s.updSet n SetRec.reinstate, Reply.of .done) := if_neg (not_not.2 h)

theorem lockHang_settled (l : Link) (tag : Word16) (x : Option Nat) (s : State) (desk : FullDesk s l)
    (range : ∀ n, x = some n → 1 ≤ n ∧ n ≤ 128) (occupied : ∀ n, x = some n → (s.setRec n).setup ≠ none) :
    ∃ t, exec (.lockHang l tag x) s = .next t ∧ t = { s with sets := t.sets, links := t.links } ∧
      (∀ k, t.setRec k = if (s.setRec k).setup ≠ none ∧ (x = none ∨ x = some k)
        then { s.setRec k with locked := true } else s.setRec k) ∧ Answered s t l 36 tag (Reply.of .done) := by
  obtain ⟨u, served, frame, sets⟩ := serveLockHang_done range occupied
  refine ⟨_, exec_taken (r := .lockHang x) desk rfl (optBetween_of_forall range) served, ?_, sets, ?_⟩
  · rw [queueReply_frame, frame]
  · exact answered_queueReply l 36 tag _ (by rw [frame])

theorem unlockHang_settled (l : Link) (tag : Word16) (x : Option Nat) (s : State) (desk : FullDesk s l)
    (range : ∀ n, x = some n → 1 ≤ n ∧ n ≤ 128) :
    ∃ t, exec (.unlockHang l tag x) s = .next t ∧ t = { s with sets := t.sets, links := t.links } ∧
      (∀ k, t.setRec k = if x = none ∨ x = some k then { s.setRec k with locked := false } else s.setRec k) ∧
      Answered s t l 37 tag (Reply.of .done) := by
  obtain ⟨u, served, frame, sets⟩ := serveUnlockHang_done range
  refine ⟨_, exec_taken (r := .unlockHang x) desk rfl (optBetween_of_forall range) served, ?_, sets, ?_⟩
  · rw [queueReply_frame, frame]
  · exact answered_queueReply l 37 tag _ (by rw [frame])

/-- Settles O45: each request's step of the set records, under the reply. -/
theorem locksAndReinstate : Obligations.LocksAndReinstate := by
  refine ⟨fun l tag x s desk range => ⟨lockHang_settled l tag x s desk range, fun n hn vacant => ?_⟩, unlockHang_settled,
    fun l tag n s desk lo hi => ?_⟩
  · subst hn
    exact exec_answerOnly (r := .lockHang (some n)) desk rfl (optBetween_of_forall range) (serveLockHang_vacant vacant)
  · have form : formOk (.reinstate n) = true := (between_iff 1 128 n).2 ⟨lo, hi⟩
    by_cases barred : (s.setRec n).state = .barred
    · refine ⟨_, exec_taken (r := .reinstate n) desk rfl form (serveReinstate_taken barred), ?_⟩
      rw [if_pos barred]
      refine ⟨rfl, ?_, fun k other => ?_, answered_queueReply l 38 tag _ rfl⟩
      · rw [queueReply_setRec, setRec_updSet, if_pos ⟨rfl, lo, hi⟩]
        rfl
      · rw [queueReply_setRec, setRec_updSet, if_neg fun h => other h.1]
    · simp only [if_neg barred]
      exact exec_answerOnly (r := .reinstate n) desk rfl form (serveReinstate_refused barred)

/-! ## CONFIGURE SET -/

/-- What the notices of a CONFIGURE SET can change. -/
theorem configureNotices_frame (before : State) (n : Nat) (s : State) :
    configureNotices before n s =
      { s with claims := (configureNotices before n s).claims, sets := (configureNotices before n s).sets
               groups := (configureNotices before n s).groups, pointer := (configureNotices before n s).pointer
               served := (configureNotices before n s).served, attention := (configureNotices before n s).attention } := by
  unfold configureNotices
  split
  · rw [columnChanged_frame before _ (setNotices before s), setNotices_frame]
  · rw [stateNotices, trustNotices_frame, setNotices_frame]

/-- A DARK set's record under the notices: no pass grants it. -/
theorem configureNotices_setRec (before : State) (n : Nat) {s : State} {k : Nat} (dark : (s.setRec k).state = .dark) :
    (configureNotices before n s).setRec k = s.setRec k := by
  unfold configureNotices
  split
  · have raised : ((setNotices before s).raiseColumn (before.moverOf n)).reevalColumns.sets = s.sets := by
      rw [reevalColumns_frame, raiseColumn_frame, setNotices_frame]
    have same := setRec_congr raised k
    exact (setRec_passIf_of_dark _ _ _ (by rw [same, dark])).trans same
  · refine setRec_congr ?_ k
    rw [stateNotices, trustNotices_frame, setNotices_frame]

/-- The state after an accepted CONFIGURE SET, before its reply. -/
def State.configureTaken (s : State) (q : ConfigureReq) : State := configureNotices s q.set (s.reconfigured q).redigest

theorem configureTaken_frame (s : State) (q : ConfigureReq) :
    s.configureTaken q =
      { s with sets := (s.configureTaken q).sets, digest := (s.configureTaken q).digest, claims := (s.configureTaken q).claims
               groups := (s.configureTaken q).groups, pointer := (s.configureTaken q).pointer
               served := (s.configureTaken q).served, buses := (s.configureTaken q).buses
               attention := (s.configureTaken q).attention } := by
  unfold State.configureTaken
  rw [configureNotices_frame, redigest_frame, reconfigured_frame]

theorem configureTaken_setRec (s : State) {q : ConfigureReq} (range : 1 ≤ q.set ∧ q.set ≤ 128) :
    (s.configureTaken q).setRec q.set = (s.setRec q.set).configure (configured q) := by
  have written : (s.reconfigured q).redigest.setRec q.set = (s.setRec q.set).configure (configured q) := by
    rw [redigest_setRec, reconfigured_setRec s q range, if_pos rfl]
  unfold State.configureTaken
  rw [configureNotices_setRec _ _ (by rw [written]; rfl), written]

theorem configureTaken_setup (s : State) {q : ConfigureReq} (range : 1 ≤ q.set ∧ q.set ≤ 128) {k : Nat} (other : k ≠ q.set) :
    ((s.configureTaken q).setRec k).setup = (s.setRec k).setup := by
  unfold State.configureTaken
  rw [(configureNotices_tower _ _ _).setups, redigest_setRec, reconfigured_setRec s q range, if_neg other]

theorem configureTaken_bus (s : State) (q : ConfigureReq) (f : Segment) :
    (s.configureTaken q).bus f = (s.reconfigured q).bus f := by
  have notices : (s.configureTaken q).buses = (s.reconfigured q).redigest.buses := by
    unfold State.configureTaken
    rw [configureNotices_frame]
  rw [bus_congr notices, redigest_bus]

/-- A station new to the set is configured for it once the request is taken. -/
theorem configureTaken_station (s : State) {q : ConfigureReq} (address : 1 ≤ q.address ∧ q.address ≤ 64)
    (new : ∀ v, (s.setRec q.set).setup = some v → ¬ (v.rig.segment = q.segment ∧ v.rig.address = q.address)) :
    (((s.configureTaken q).bus q.segment).station q.address).set = some q.set ∧
      ((s.configureTaken q).bus q.segment).state ≠ .idle := by
  rw [configureTaken_bus]
  refine moveStation_new _ q.set address fun v hv => ?_
  rw [← Bool.not_eq_true, names_iff]
  exact new v hv

/-- Settles O43: the records of the set and of its station as they are written, which the notices leave alone. -/
theorem configureSetTaken : Obligations.ConfigureSetTaken := by
  intro l tag q s desk form
  obtain ⟨range, address⟩ := configureForm form
  refine ⟨fun r refused => exec_answerOnly desk rfl form (serveConfigureSet_refused refused), fun passed => ?_⟩
  refine ⟨_, configured q, exec_taken desk rfl form (u := s.configureTaken q) (serveConfigureSet_taken passed), ?_,
    configureTaken_setRec s range, rfl, rfl, fun k other => configureTaken_setup s range other, configureTaken_station s address,
    ?_⟩
  · rw [queueReply_frame, configureTaken_frame]
  · exact answered_queueReply l 33 tag _ (by rw [configureTaken_frame])

/-! ## RELEASE SET -/

theorem latchIf_faults (b : Bool) (src : Source) (s : State) : (latchIf b src s).attention.faults = s.attention.faults := by
  unfold latchIf
  split <;> rfl

theorem setNotices_faults (before s : State) : (setNotices before s).attention.faults = s.attention.faults :=
  (latchIf_faults _ _ _).trans rfl

theorem redigest_faults (s : State) : s.redigest.attention.faults = s.attention.faults := (latchIf_faults _ _ _).trans rfl

/-- The state after an accepted RELEASE SET, before its reply. -/
def State.releaseTaken (s : State) (n : Nat) : State :=
  (if s.untrusted (.set n) then (s.releasedNoticed n).reevalColumns else s.releasedNoticed n).pass

/-- The re-evaluation of the COLUMN holds and the pass, from the records written and the attention noticed. -/
theorem releaseTaken_granting (s : State) (n : Nat) :
    ∃ u, u = { s.releasedNoticed n with claims := u.claims } ∧ Granting u (s.releaseTaken n) := by
  refine ⟨_, ?_, pass_granting _⟩
  split
  · exact reevalColumns_frame _
  · rfl

theorem releasedNoticed_frame (s : State) (n : Nat) :
    s.releasedNoticed n =
      { s with sets := (s.released n).sets, buses := (s.released n).buses, digest := (s.releasedNoticed n).digest
               attention := (s.releasedNoticed n).attention } := by
  unfold State.releasedNoticed
  rw [setNotices_frame, redigest_frame, State.putFaultSummary, released_frame]

theorem releaseTaken_frame (s : State) (n : Nat) :
    s.releaseTaken n =
      { s with sets := (s.releaseTaken n).sets, digest := (s.releaseTaken n).digest, claims := (s.releaseTaken n).claims
               groups := (s.releaseTaken n).groups, pointer := (s.releaseTaken n).pointer
               served := (s.releaseTaken n).served, buses := (s.releaseTaken n).buses
               attention := (s.releaseTaken n).attention } := by
  obtain ⟨u, claims, granting⟩ := releaseTaken_granting s n
  rw [granting.frame, claims, releasedNoticed_frame]

theorem releaseTaken_setup {s : State} {n : Nat} {u : Setup} (h : (s.setRec n).setup = some u) {k : Nat} (other : k ≠ n) :
    ((s.releaseTaken n).setRec k).setup = (s.setRec k).setup := by
  obtain ⟨v, claims, granting⟩ := releaseTaken_granting s n
  have sets : v.sets = (s.released n).sets := by rw [claims, releasedNoticed_frame]
  rw [granting.tower.setups, setRec_congr sets, released_setRec h, if_neg other]

/-- The set released stays VACANT: no pass grants it. -/
theorem releaseTaken_setRec {s : State} {n : Nat} {u : Setup} (h : (s.setRec n).setup = some u) :
    (s.releaseTaken n).setRec n = SetRec.vacant := by
  obtain ⟨v, claims, granting⟩ := releaseTaken_granting s n
  have sets : v.sets = (s.released n).sets := by rw [claims, releasedNoticed_frame]
  have vacant : v.setRec n = SetRec.vacant := by rw [setRec_congr sets, released_setRec h, if_pos rfl]
  rcases granting.sets n with same | ⟨occupied, -⟩
  · rw [same, vacant]
  · rw [vacant] at occupied
    cases occupied

theorem releaseTaken_faultSummary (s : State) {n : Nat} (range : 1 ≤ n ∧ n ≤ 128) (k : Nat) :
    (s.releaseTaken n).faultSummary k = if k = n then FaultSummary.reset else s.faultSummary k := by
  obtain ⟨v, claims, granting⟩ := releaseTaken_granting s n
  have attention : (s.releaseTaken n).attention = (s.releasedNoticed n).attention := by rw [granting.frame, claims]
  have faults : (s.releaseTaken n).attention.faults = ((s.released n).putFaultSummary n FaultSummary.reset).attention.faults := by
    rw [attention, State.releasedNoticed, setNotices_faults, redigest_faults]
  have before : (s.released n).attention = s.attention := by rw [released_frame]
  rw [faultSummary_congr faults, faultSummary_putFaultSummary, faultSummary_congr (congrArg AttentionRec.faults before)]
  exact if_congr (and_iff_left range) rfl rfl

theorem releaseTaken_station {s : State} {n : Nat} {u : Setup} (h : (s.setRec n).setup = some u) :
    (((s.releaseTaken n).bus u.rig.segment).station u.rig.address).set = none := by
  obtain ⟨v, claims, granting⟩ := releaseTaken_granting s n
  have buses : (s.releaseTaken n).buses = (s.released n).buses := by rw [granting.frame, claims, releasedNoticed_frame]
  rw [bus_congr buses, released_station h, if_pos ((names_iff u _ _).2 ⟨rfl, rfl⟩)]

theorem releaseSet_settled (l : Link) (tag : Word16) (n : Nat) (s : State) (desk : FullDesk s l) (lo : 1 ≤ n) (hi : n ≤ 128) :
    (∀ r, s.releaseCheck n = some r → ∃ t, exec (.releaseSet l tag n) s = .next t ∧ AnswerOnly s t l 34 tag (Reply.of r)) ∧
    (s.releaseCheck n = none →
      ∃ t, exec (.releaseSet l tag n) s = .next t ∧
        t = { s with sets := t.sets, digest := t.digest, claims := t.claims, groups := t.groups, pointer := t.pointer
                     served := t.served, buses := t.buses, links := t.links, attention := t.attention } ∧
        t.setRec n = SetRec.vacant ∧ (∀ k, k ≠ n → (t.setRec k).setup = (s.setRec k).setup) ∧
        t.faultSummary n = FaultSummary.reset ∧ (∀ k, k ≠ n → t.faultSummary k = s.faultSummary k) ∧
        (∀ u, (s.setRec n).setup = some u → ((t.bus u.rig.segment).station u.rig.address).set = none) ∧
        Answered s t l 34 tag (Reply.of .done)) := by
  have form : formOk (.releaseSet n) = true := (between_iff 1 128 n).2 ⟨lo, hi⟩
  refine ⟨fun r refused => exec_answerOnly desk rfl form (serveReleaseSet_refused refused), fun passed => ?_⟩
  obtain ⟨u, hu, -⟩ := releaseCheck_none passed
  have faults := releaseTaken_faultSummary s ⟨lo, hi⟩
  refine ⟨_, exec_taken desk rfl form (u := s.releaseTaken n) (serveReleaseSet_taken passed), ?_, ?_, fun k other => ?_, ?_,
    fun k other => ?_, fun v hv => ?_, ?_⟩
  · rw [queueReply_frame, releaseTaken_frame]
  · rw [queueReply_setRec, releaseTaken_setRec hu]
  · rw [queueReply_setRec, releaseTaken_setup hu other]
  · rw [queueReply_faultSummary, faults, if_pos rfl]
  · rw [queueReply_faultSummary, faults, if_neg other]
  · rw [queueReply_bus, releaseTaken_station hv]
  · exact answered_queueReply l 34 tag _ (by rw [releaseTaken_frame])

/-! ## REHANG -/

/-- The state after an accepted REHANG, before its reply. -/
def State.rehangTaken (s : State) (q : RehangReq) : State := s.rehangNotices q.set (s.rehung q).redigest

theorem rehangTaken_frame (s : State) (q : RehangReq) :
    s.rehangTaken q =
      { s with sets := (s.rehangTaken q).sets, digest := (s.rehangTaken q).digest, claims := (s.rehangTaken q).claims
               groups := (s.rehangTaken q).groups, pointer := (s.rehangTaken q).pointer, served := (s.rehangTaken q).served
               attention := (s.rehangTaken q).attention } := by
  unfold State.rehangTaken
  rw [rehangNotices_frame s q.set (s.rehung q).redigest, redigest_frame, State.rehung]
  rfl

theorem rehangTaken_setup (s : State) (q : RehangReq) (k : Nat) :
    ((s.rehangTaken q).setRec k).setup =
      if k = q.set then (s.setRec q.set).setup.map fun u => { u with hang := q.hang } else (s.setRec k).setup := by
  unfold State.rehangTaken
  rw [(rehangNotices_tower s _ _).setups, redigest_setRec, rehung_setup]

/-- Settles O44: the records as they are written, which the notices and the pass keep. -/
theorem releaseAndRehang : Obligations.ReleaseAndRehang := by
  refine ⟨releaseSet_settled, fun l tag q s desk form => ?_⟩
  refine ⟨fun r refused => exec_answerOnly desk rfl form (serveRehang_refused refused), fun passed => ?_⟩
  have setups := rehangTaken_setup s q
  refine ⟨_, exec_taken desk rfl form (u := s.rehangTaken q) (serveRehang_taken passed), ?_, ?_, fun k other => ?_, ?_⟩
  · rw [queueReply_frame, rehangTaken_frame]
  · rw [queueReply_setRec, setups, if_pos rfl]
  · rw [queueReply_setRec, setups, if_neg other]
  · exact answered_queueReply l 35 tag _ (by rw [rehangTaken_frame])

end Sys2Proof.Machine
end

section
/-! PROOF. BIND and UNBIND (O46). -/

namespace Sys2Proof.Machine

/-! ## BIND -/

theorem bindForm {q : BindReq} (h : formOk (.bind q) = true) {n : Nat} (member : n ∈ q.sets) : 1 ≤ n ∧ n ≤ 128 := by
  simp only [formOk, bindOk, Bool.and_eq_true] at h
  obtain ⟨⟨⟨-, range⟩, -⟩, -⟩ := h
  exact (between_iff 1 128 n).1 (List.all_eq_true.1 range n member)

theorem mem_sortedSets (q : BindReq) (n : Nat) : n ∈ sortedSets q ↔ (1 ≤ n ∧ n ≤ 128) ∧ n ∈ q.sets := by
  simp [sortedSets, Tab.mem_numbers]

theorem serveBind_refused {q : BindReq} {s : State} {r : Result} (h : s.bindCheck (sortedSets q) = some r) :
    serveBind q s = (s, Reply.of r) := by simp only [serveBind, h]

theorem serveBind_conflict {q : BindReq} {s : State} {c : Region} {o : Obstacle} (h : s.bindCheck (sortedSets q) = none)
    (resting : s.restingAt (sortedSets q) s.restOf = some c) (meets : s.obstacle ((sortedSets q).map Mover.set) c = some o) :
    serveBind q s = (s, Reply.conflict (some o)) := by simp only [serveBind, h, resting, Option.bind_some, meets]

theorem serveBind_taken {q : BindReq} {s : State} {b : Nat} (h : s.bindCheck (sortedSets q) = none)
    (fits : ∀ c, s.restingAt (sortedSets q) s.restOf = some c → s.fits ((sortedSets q).map Mover.set) c = true)
    (free : Tab.firstFree s.bonds = some b) :
    serveBind q s = ((s.makeBond b (sortedSets q) (q.skew.getD Config.defaultSkew)).redigest, Reply.done (b1 b)) := by
  have clear : ((s.restingAt (sortedSets q) s.restOf).bind fun c => s.obstacle ((sortedSets q).map Mover.set) c) = none :=
    Option.bind_eq_none_iff.2 fun c hc => Option.isNone_iff_eq_none.1 (fits c hc)
  simp only [serveBind, h, clear, free]

theorem makeBond_bond? (s : State) {b : Nat} (range : 1 ≤ b ∧ b ≤ 16) (ns : List Nat) (skew k : Nat) :
    (s.makeBond b ns skew).bond? k = if k = b then some { members := ns, skew := skew, claim := none } else s.bond? k := by
  have bonds : (s.makeBond b ns skew).bonds = Tab.put s.bonds b (some { members := ns, skew := skew, claim := none }) := by
    rw [makeBond_frame]
  rw [State.bond?, bonds, Tab.record?_put]
  exact if_congr (and_iff_left range) rfl rfl

/-- The state after an accepted BIND, before its reply. -/
def State.bindTaken (s : State) (q : BindReq) (b : Nat) : State :=
  (s.makeBond b (sortedSets q) (q.skew.getD Config.defaultSkew)).redigest

theorem bindTaken_frame (s : State) (q : BindReq) (b : Nat) :
    s.bindTaken q b =
      { s with sets := (s.bindTaken q b).sets, bonds := (s.bindTaken q b).bonds, digest := (s.bindTaken q b).digest
               attention := (s.bindTaken q b).attention } := by
  unfold State.bindTaken
  rw [redigest_frame, makeBond_frame]

theorem bindTaken_bond? (s : State) (q : BindReq) {b : Nat} (range : 1 ≤ b ∧ b ≤ 16) (k : Nat) :
    (s.bindTaken q b).bond? k =
      if k = b then some { members := sortedSets q, skew := q.skew.getD 25, claim := none } else s.bond? k := by
  unfold State.bindTaken
  rw [redigest_bond?, makeBond_bond? s range, Config.defaultSkew]

theorem bindTaken_setRec (s : State) {q : BindReq} (form : formOk (.bind q) = true) (b k : Nat) :
    (s.bindTaken q b).setRec k = if k ∈ q.sets then { s.setRec k with bond := some b } else s.setRec k := by
  unfold State.bindTaken
  rw [redigest_setRec, makeBond_setRec]
  refine if_congr ⟨fun h => ((mem_sortedSets q k).1 h.1).2, fun h => ?_⟩ rfl rfl
  have range := bindForm form h
  exact ⟨(mem_sortedSets q k).2 ⟨range, h⟩, range⟩

theorem bind_settled (l : Link) (tag : Word16) (q : BindReq) (ns : List Nat) (s : State) (desk : FullDesk s l)
    (form : formOk (.bind q) = true) (sorted : ns = (List.range' 1 128).filter fun n => decide (n ∈ q.sets)) :
    (∀ r, s.bindCheck ns = some r → ∃ t, exec (.bind l tag q) s = .next t ∧ AnswerOnly s t l 39 tag (Reply.of r)) ∧
    (∀ c o, s.bindCheck ns = none → s.restingAt ns s.restOf = some c → s.obstacle (ns.map Mover.set) c = some o →
      ∃ t, exec (.bind l tag q) s = .next t ∧ AnswerOnly s t l 39 tag { result := .conflict, payload := o.bytes }) ∧
    (∀ b, s.bindCheck ns = none → (∀ c, s.restingAt ns s.restOf = some c → s.fits (ns.map Mover.set) c = true) →
      1 ≤ b → b ≤ 16 → s.bond? b = none → (∀ k, 1 ≤ k → k < b → (s.bond? k).isSome = true) →
      ∃ t, exec (.bind l tag q) s = .next t ∧
        t = { s with sets := t.sets, bonds := t.bonds, digest := t.digest, links := t.links, attention := t.attention } ∧
        t.bond? b = some { members := ns, skew := q.skew.getD 25, claim := none } ∧
        (∀ k, k ≠ b → t.bond? k = s.bond? k) ∧
        (∀ n, t.setRec n = if n ∈ q.sets then { s.setRec n with bond := some b } else s.setRec n) ∧
        Answered s t l 39 tag (Reply.done [byteOf b])) := by
  have named : ns = sortedSets q := sorted
  subst named
  refine ⟨fun r refused => exec_answerOnly desk rfl form (serveBind_refused refused),
    fun c o passed resting meets => exec_answerOnly desk rfl form (serveBind_conflict passed resting meets),
    fun b passed fits lo hi free used => ?_⟩
  have first : Tab.firstFree s.bonds = some b := (Tab.firstFree_eq_some _ _).2 ⟨lo, hi, free, used⟩
  have bonds := bindTaken_bond? s q ⟨lo, hi⟩
  refine ⟨_, exec_taken desk rfl form (u := s.bindTaken q b) (serveBind_taken passed fits first), ?_, ?_, fun k other => ?_,
    fun n => ?_, ?_⟩
  · rw [queueReply_frame, bindTaken_frame]
  · rw [queueReply_bond?, bonds, if_pos rfl]
  · rw [queueReply_bond?, bonds, if_neg other]
  · rw [queueReply_setRec, bindTaken_setRec s form]
  · exact answered_queueReply l 39 tag _ (by rw [bindTaken_frame])

/-! ## UNBIND -/

/-- The state after an accepted UNBIND of bond `b`, whose record is `x`, before its reply. -/
def State.unbindTaken (s : State) (b : Nat) (x : BondRec) : State := s.unbindNotices b x (s.freeBond b x).redigest

theorem unbindTaken_frame (s : State) (b : Nat) (x : BondRec) :
    s.unbindTaken b x =
      { s with sets := (s.unbindTaken b x).sets, bonds := Tab.put s.bonds b none, digest := (s.unbindTaken b x).digest
               claims := (s.unbindTaken b x).claims, groups := (s.unbindTaken b x).groups
               pointer := (s.unbindTaken b x).pointer, served := (s.unbindTaken b x).served
               attention := (s.unbindTaken b x).attention } := by
  obtain ⟨u, claims, granting⟩ := unbindNotices_granting s b x (s.freeBond b x).redigest
  unfold State.unbindTaken
  rw [granting.frame, claims, redigest_frame, freeBond_frame]

theorem unbindTaken_bond? (s : State) {b : Nat} (x : BondRec) (range : 1 ≤ b ∧ b ≤ 16) (k : Nat) :
    (s.unbindTaken b x).bond? k = if k = b then none else s.bond? k := by
  have bonds : (s.unbindTaken b x).bonds = Tab.put s.bonds b none := by rw [unbindTaken_frame]
  rw [State.bond?, bonds, Tab.record?_put]
  exact if_congr (and_iff_left range) rfl rfl

/-- A pass keeps every set's bond. -/
theorem Granting.bond {s t : State} (h : Granting s t) (n : Nat) : (t.setRec n).bond = (s.setRec n).bond := by
  rcases h.sets n with same | ⟨-, -, -, engaged⟩
  · rw [same]
  · rw [engaged]

theorem unbindTaken_bond (s : State) (b : Nat) (x : BondRec) (n : Nat) :
    ((s.unbindTaken b x).setRec n).bond = if n ∈ x.members then none else (s.setRec n).bond := by
  obtain ⟨u, claims, granting⟩ := unbindNotices_granting s b x (s.freeBond b x).redigest
  have sets : u.sets = (s.freeBond b x).sets := by rw [claims, redigest_frame]
  unfold State.unbindTaken
  rw [granting.bond, setRec_congr sets, freeBond_setRec]
  by_cases range : 1 ≤ n ∧ n ≤ 128
  · rw [apply_ite SetRec.bond]
    exact if_congr (and_iff_left range) rfl rfl
  · rw [if_neg fun h => range h.2, setRec_out s n range]
    exact (ite_self _).symm

theorem unbindTaken_setup (s : State) (b : Nat) (x : BondRec) (n : Nat) :
    ((s.unbindTaken b x).setRec n).setup = (s.setRec n).setup := by
  unfold State.unbindTaken
  rw [(unbindNotices_tower s b x _).setups, redigest_setRec, freeBond_setRec]
  split <;> rfl

/-- Settles O46, request by request. -/
theorem bondsMadeAndFreed : Obligations.BondsMadeAndFreed := by
  refine ⟨bind_settled, fun l tag b s desk lo hi => ?_⟩
  have form : formOk (.unbind b) = true := (between_iff 1 16 b).2 ⟨lo, hi⟩
  cases found : s.bond? b with
  | none => exact exec_answerOnly desk rfl form (serveUnbind_noSuch found)
  | some x =>
    cases check : s.unbindCheck x with
    | some r =>
      simp only [check]
      exact exec_answerOnly desk rfl form (serveUnbind_refused found check)
    | none =>
      simp only [check]
      have bonds := unbindTaken_bond? s x ⟨lo, hi⟩
      refine ⟨_, exec_taken desk rfl form (u := s.unbindTaken b x) (serveUnbind_taken found check), ?_, ?_, fun k other => ?_,
        fun n => ?_, fun n => ?_, ?_⟩
      · rw [queueReply_frame, unbindTaken_frame]
      · rw [queueReply_bond?, bonds, if_pos rfl]
      · rw [queueReply_bond?, bonds, if_neg other]
      · rw [queueReply_setRec, unbindTaken_bond]
      · rw [queueReply_setRec, unbindTaken_setup]
      · exact answered_queueReply l 40 tag _ (by rw [unbindTaken_frame])

end Sys2Proof.Machine
end

section
/-! PROOF. The lookups of the tower and the images of the hang digest (O9): an image is its fields in order, each at the offset that the lengths before it add up to. -/

namespace Sys2Proof.Machine

/-! ## Bytes at an offset -/

theorem bytesAt_append (pre bs post : List Byte) : BytesAt (pre ++ (bs ++ post)) pre.length bs := by
  rw [BytesAt, List.drop_left, List.take_left]

/-- Each field of an image stands at the sum of the lengths before it. -/
theorem bytesAt_flatten {fs : List (List Byte)} {lens : List Nat} (layout : fs.map List.length = lens) {i : Nat} {bs : List Byte}
    (field : fs[i]? = some bs) : BytesAt fs.flatten (lens.take i).sum bs := by
  obtain ⟨inside, rfl⟩ := List.getElem?_eq_some_iff.1 field
  have offset : (lens.take i).sum = (fs.take i).flatten.length := by rw [List.length_flatten, List.map_take, layout]
  have parts : fs.flatten = (fs.take i).flatten ++ (fs[i] ++ (fs.drop (i + 1)).flatten) := by
    rw [← List.flatten_cons, ← List.drop_eq_getElem_cons inside, ← List.flatten_append, List.take_append_drop]
  rw [offset, parts]
  exact bytesAt_append _ _ _

theorem length_flatten_of_layout {fs : List (List Byte)} {lens : List Nat} (layout : fs.map List.length = lens) :
    fs.flatten.length = lens.sum := by rw [List.length_flatten, layout]

/-- One byte of a field. -/
theorem BytesAt.getElem? {p bs : List Byte} {k : Nat} (h : BytesAt p k bs) {i : Nat} (inside : i < bs.length) :
    p[k + i]? = bs[i]? := by
  have read := congrArg (fun l : List Byte => l[i]?) h
  rwa [List.getElem?_take_of_lt inside, List.getElem?_drop] at read

/-! ## Lengths of the fields -/

@[simp] theorem length_b1 (n : Nat) : (b1 n).length = 1 := rfl
@[simp] theorem length_flags (bs : List Bool) : (flags bs).length = 1 := rfl
@[simp] theorem length_o1 (x : Option Nat) : (o1 x).length = 1 := rfl
@[simp] theorem length_be16 (n : Nat) : (be16 n).length = 2 := rfl
@[simp] theorem length_be16i (i : Int) : (be16i i).length = 2 := rfl
@[simp] theorem length_o2 (x : Option Nat) : (o2 x).length = 2 := rfl
@[simp] theorem length_oi2 (x : Option Int) : (oi2 x).length = 2 := rfl
@[simp] theorem length_bytes32 (w : Word32) : (bytes32 w).length = 4 := rfl
@[simp] theorem length_padTo (k : Nat) (bs : List Byte) : (padTo k bs).length = k := by simp [padTo]
@[simp] theorem length_contentBytes (c : Content) : c.bytes.length = 5 := rfl

@[simp] theorem length_boundBytes (i : Int) : (boundBytes i).length = 2 := by
  unfold boundBytes
  split <;> rfl

@[simp] theorem length_regionBytes (r : Option Region) : (regionBytes r).length = 8 := by
  cases r with
  | none => rfl
  | some a => simp [regionBytes, Region.bytes]

@[simp] theorem length_setupBytes (u : Option Setup) : (setupBytes u).length = 30 := by cases u <;> simp [setupBytes]
@[simp] theorem length_reportBytes (r : Option Report) : (reportBytes r).length = 7 := by cases r <;> simp [reportBytes]
@[simp] theorem length_optionalContentBytes (c : Option Content) : (contentBytes c).length = 5 := by cases c <;> rfl

/-! ## The current region -/

theorem regionBytes_eq (r : Option Region) : regionBytes r = shownRegion r := by cases r <;> rfl

theorem currentRegion_code (s : State) (m : Mover) :
    b1 (s.currentRegion m).1.code = [if (s.liveClaim m).isSome then 2#8 else if s.untrusted m then 3#8 else 1#8] := by
  unfold State.currentRegion
  cases s.liveClaim m with
  | some c => rfl
  | none => cases s.untrusted m <;> rfl

theorem currentRegion_region (s : State) (m : Mover) :
    (s.currentRegion m).2 = match s.liveClaim m with
      | some c => c.span
      | none => if s.untrusted m then s.column m else s.restingRegion m := by
  unfold State.currentRegion
  cases s.liveClaim m with
  | some c => rfl
  | none => cases s.untrusted m <;> rfl

theorem setRegion_code (s : State) (n : Nat) :
    b1 (s.setRegion n).1.code = [if (s.setRec n).setup = none then 0#8
      else if (s.liveClaim (s.moverOf n)).isSome then 2#8 else if s.untrusted (s.moverOf n) then 3#8 else 1#8] := by
  unfold State.setRegion
  cases e : (s.setRec n).setup with
  | none => rfl
  | some u => exact currentRegion_code s _

theorem setRegion_region (s : State) (n : Nat) : (s.setRegion n).2 = regionShown s n := by
  unfold State.setRegion regionShown
  cases e : (s.setRec n).setup with
  | none => rfl
  | some u => exact currentRegion_region s _

/-! ## LOOKUP SET -/

/-- The bytes of the fault summary that the summary mode selects (R188). -/
theorem shown_list (x : FaultSummary) (mode : SummaryMode) :
    (x.shown mode).list = match mode with
      | .latest => [decide (x.latest = some .miss), decide (x.latest = some .overload), decide (x.latest = some .slack),
          decide (x.latest = some .overspeed), decide (x.latest = some .limit), decide (x.latest = some .drive)]
      | .accumulated => [x.classes.miss, x.classes.overload, x.classes.slack, x.classes.overspeed, x.classes.limit,
          x.classes.drive] := by
  cases mode with
  | accumulated => rfl
  | latest =>
    unfold FaultSummary.shown
    cases x.latest with
    | none => rfl
    | some c => cases c <;> rfl

/-- The fields of the LOOKUP SET image, in order (R24). -/
def State.setFields (s : State) (n : Nat) : List (List Byte) :=
  let r := s.setRec n
  let x := s.faultSummary n
  [b1 n, b1 r.state.code,
    flags [r.setup.any (fun u => decide (u.rig.segment = .fb1)), r.setup.any (fun u => decide (u.rig.stopMode = .fixed)),
      r.identityVerified, r.locked, decide (s.attention.mode = .accumulated)],
    flags [r.setup.isSome, r.setup.any (fun u => u.rig.fixedAllowance.isSome), r.restPosition.isSome, r.lastReport.isSome,
      r.bond.isSome, r.claim.isSome, r.barredCause.isSome, x.rawCode.isSome],
    setupBytes r.setup, oi2 r.restPosition, reportBytes r.lastReport,
    o1 r.bond ++ o1 r.claim ++ o1 (r.barredCause.map BarredCause.code), b1 (s.setRegion n).1.code, regionBytes (s.setRegion n).2,
    flags (x.shown s.attention.mode).list, b1 (latestCode x.latest) ++ [x.rawCode.getD 0#8]]

theorem setImage_eq (s : State) (n : Nat) : s.setImage n = (s.setFields n).flatten := by simp [State.setImage, State.setFields]

theorem setFields_layout (s : State) (n : Nat) :
    (s.setFields n).map List.length = [1, 1, 1, 1, 30, 2, 7, 3, 1, 8, 1, 2] := by simp [State.setFields]

/-- Field `i` of the LOOKUP SET image. -/
theorem setImage_field (s : State) (n : Nat) {i : Nat} {bs : List Byte} (field : (s.setFields n)[i]? = some bs) :
    BytesAt (s.setImage n) ([1, 1, 1, 1, 30, 2, 7, 3, 1, 8, 1, 2].take i).sum bs := by
  rw [setImage_eq]
  exact bytesAt_flatten (setFields_layout s n) field

theorem setImage_length (s : State) (n : Nat) : (s.setImage n).length = 58 := by
  rw [setImage_eq]
  exact length_flatten_of_layout (setFields_layout s n)

theorem setupBytes_eq (x : Option Setup) :
    setupBytes x = match x with
      | none => List.replicate 30 0#8
      | some u => [byteOf u.rig.address, byteOf u.rig.arrivalTol] ++ be16 u.rig.depth ++ be16 u.rig.lower ++ be16 u.rig.upper ++
        be16 u.rig.rated ++ be16 u.rig.stopConstant ++ be16 (u.rig.fixedAllowance.getD 0) ++ be16 u.rig.stallWindow ++
        be16 u.hang.top ++ be16 u.hang.drop ++ be16 u.hang.fore ++ be16 u.hang.aft ++ be16 u.hang.sway ++ be16 u.hang.loadMin ++
        be16 u.hang.loadMax := by
  cases x <;> rfl

theorem reportBytes_eq (x : Option Report) :
    reportBytes x = match x with
      | none => List.replicate 7 0#8
      | some r => be16i r.position ++ be16i r.velocity ++ be16 r.load ++ [byteOf r.status.code] := by
  cases x <;> rfl

theorem setImage_spec (s : State) (n : Nat) : SetImage s n (s.setImage n) := by
  have setup := setImage_field s n (i := 4) rfl
  have report := setImage_field s n (i := 6) rfl
  have region := setImage_field s n (i := 9) rfl
  have classes := setImage_field s n (i := 10) rfl
  rw [setupBytes_eq] at setup
  rw [reportBytes_eq] at report
  rw [regionBytes_eq, setRegion_region] at region
  rw [shown_list] at classes
  exact ⟨setImage_field s n (i := 2) rfl, setImage_field s n (i := 3) rfl, setup, setImage_field s n (i := 5) rfl, report,
    setImage_field s n (i := 7) rfl, region, classes, setImage_field s n (i := 11) rfl⟩

/-- The kind of the current region, at offset 46. -/
theorem setImage_kind (s : State) (n : Nat) :
    (s.setImage n)[46]? = some (if (s.setRec n).setup = none then 0#8
      else if (s.liveClaim (s.moverOf n)).isSome then 2#8 else if s.untrusted (s.moverOf n) then 3#8 else 1#8) := by
  have kind := setImage_field s n (i := 8) rfl
  rw [setRegion_code] at kind
  exact kind.getElem? (i := 0) Nat.one_pos

/-! ## LOOKUP BOND -/

/-- The fields of the LOOKUP BOND image, in order (R25). -/
def State.bondFields (s : State) (b : Nat) (x : BondRec) : List (List Byte) :=
  [flags [x.claim.isSome], padTo 4 (x.members.flatMap b1),
    be16 x.skew ++ o1 x.claim ++ regionBytes (s.currentRegion (.bond b)).2 ++ b1 (s.currentRegion (.bond b)).1.code,
    b1 (if s.untrusted (.bond b) then 1 else 0)]

theorem bondImage_eq (s : State) (b : Nat) (x : BondRec) : s.bondImage b x = (s.bondFields b x).flatten := by
  simp [State.bondImage, State.bondFields]

theorem bondFields_layout (s : State) (b : Nat) (x : BondRec) : (s.bondFields b x).map List.length = [1, 4, 12, 1] := by
  simp [State.bondFields]

/-- Field `i` of the LOOKUP BOND image. -/
theorem bondImage_field (s : State) (b : Nat) (x : BondRec) {i : Nat} {bs : List Byte} (field : (s.bondFields b x)[i]? = some bs) :
    BytesAt (s.bondImage b x) ([1, 4, 12, 1].take i).sum bs := by
  rw [bondImage_eq]
  exact bytesAt_flatten (bondFields_layout s b x) field

theorem bondImage_length (s : State) (b : Nat) (x : BondRec) : (s.bondImage b x).length = 18 := by
  rw [bondImage_eq]
  exact length_flatten_of_layout (bondFields_layout s b x)

/-- The lowest member of a bond, or zero, leads the member bytes. -/
theorem padTo_members_head (ns : List Nat) : (padTo 4 (ns.flatMap b1))[0]? = some (byteOf (ns.getD 0 0)) := by
  cases ns <;> rfl

theorem bondImage_head (s : State) (b : Nat) (x : BondRec) : (s.bondImage b x)[1]? = some (byteOf (x.members.getD 0 0)) := by
  have members := (bondImage_field s b x (i := 1) rfl).getElem? (i := 0) (by rw [length_padTo]; decide)
  exact members.trans (padTo_members_head x.members)

theorem bondImage_untrusted (s : State) (b : Nat) (x : BondRec) :
    (s.bondImage b x)[17]? = some (if s.untrusted (.bond b) then 1#8 else 0#8) := by
  refine ((bondImage_field s b x (i := 3) rfl).getElem? (i := 0) Nat.one_pos).trans ?_
  cases s.untrusted (.bond b) <;> rfl

theorem bondImage_region (s : State) (b : Nat) (x : BondRec) :
    BytesAt (s.bondImage b x) 5 (be16 x.skew ++ [byteOf (x.claim.getD 0)] ++ shownRegion (match s.liveClaim (.bond b) with
      | some c => c.span
      | none => if s.untrusted (.bond b) then s.column (.bond b) else s.restingRegion (.bond b)) ++
      [if (s.liveClaim (.bond b)).isSome then 2#8 else if s.untrusted (.bond b) then 3#8 else 1#8]) := by
  have field := bondImage_field s b x (i := 2) rfl
  rw [regionBytes_eq, currentRegion_region, currentRegion_code] at field
  exact field

/-! ## LOOKUP SEGMENT and LOOKUP STATION -/

/-- The fields of the LOOKUP SEGMENT image, in order (R117). -/
def Bus.fields (b : Bus) : List (List Byte) :=
  [flags [b.loopResult.isSome, b.loopResult.any fun r => r.lowestFailed.isSome], b1 b.state.code, be16 b.configured.length,
    be16 ((b.round.map fun r => r.active.length).getD 0), be16 b.idlePointer, be16 b.idleSlice,
    o2 (b.loopResult.map LoopResult.passed), o2 (b.loopResult.map LoopResult.failed),
    o2 (b.loopResult.bind LoopResult.lowestFailed)]

theorem busImage_eq (b : Bus) : b.image = b.fields.flatten := by simp [Bus.image, Bus.fields]

theorem busFields_layout (b : Bus) : b.fields.map List.length = [1, 1, 2, 2, 2, 2, 2, 2, 2] := by simp [Bus.fields]

/-- Field `i` of the LOOKUP SEGMENT image. -/
theorem busImage_field (b : Bus) {i : Nat} {bs : List Byte} (field : b.fields[i]? = some bs) :
    BytesAt b.image ([1, 1, 2, 2, 2, 2, 2, 2, 2].take i).sum bs := by
  rw [busImage_eq]
  exact bytesAt_flatten (busFields_layout b) field

theorem busImage_length (b : Bus) : b.image.length = 16 := by
  rw [busImage_eq]
  exact length_flatten_of_layout (busFields_layout b)

/-- The identity field of the LOOKUP STATION image. -/
def identityBytes (i : Option (Nat × Word32)) : List Byte := (i.map fun x => bytes32 x.2).getD (List.replicate 4 0#8)

@[simp] theorem length_identityBytes (i : Option (Nat × Word32)) : (identityBytes i).length = 4 := by cases i <;> rfl

/-- The fields of the LOOKUP STATION image, in order (R118). -/
def State.stationFields (s : State) (x : Station) : List (List Byte) :=
  [flags [x.set.isSome, x.lastContent.isSome, x.lastOutcome.isSome, x.identity.isSome, (x.set.map s.contentFor).isSome], o1 x.set,
    flags [x.toggle], contentBytes x.lastContent, be16 x.missCount, flags [x.fresh], o1 (x.lastOutcome.map PollOutcome.code),
    o1 (x.identity.map Prod.fst), identityBytes x.identity,
    contentBytes (x.set.map s.contentFor)]

theorem stationImage_eq (s : State) (x : Station) : s.stationImage x = (s.stationFields x).flatten := by
  simp [State.stationImage, State.stationFields, identityBytes]

theorem stationFields_layout (s : State) (x : Station) :
    (s.stationFields x).map List.length = [1, 1, 1, 5, 2, 1, 1, 1, 4, 5] := by
  simp [State.stationFields]

theorem stationImage_length (s : State) (x : Station) : (s.stationImage x).length = 22 := by
  rw [stationImage_eq]
  exact length_flatten_of_layout (stationFields_layout s x)

/-- Field `i` of the LOOKUP STATION image. -/
theorem stationImage_field (s : State) (x : Station) {i : Nat} {bs : List Byte} (field : (s.stationFields x)[i]? = some bs) :
    BytesAt (s.stationImage x) ([1, 1, 1, 5, 2, 1, 1, 1, 4, 5].take i).sum bs := by
  rw [stationImage_eq]
  exact bytesAt_flatten (stationFields_layout s x) field

/-- The content that would be built now ends the image. -/
theorem stationImage_content (s : State) (x : Station) :
    (s.stationImage x).drop 17 = match x.set with
      | none => List.replicate 5 0#8
      | some n => (s.contentFor n).bytes := by
  have field : BytesAt (s.stationImage x) 17 (contentBytes (x.set.map s.contentFor)) := stationImage_field s x (i := 9) rfl
  rw [BytesAt, List.take_of_length_le (by simp [stationImage_length])] at field
  rw [field]
  cases x.set <;> rfl

/-! ## The hang digest -/

/-- Fields that fit their widths are packed as they are. -/
theorem packFields_of_fits {fs : List (Nat × Nat)} (fits : ∀ f ∈ fs, f.2 < 2 ^ f.1) :
    packFields fs = fs.foldl (fun acc f => acc * 2 ^ f.1 + f.2) 0 :=
  List.foldl_ext _ _ _ fun acc f member => by rw [Nat.mod_eq_of_lt (fits f member)]

/-- Every field of a set in the ranges of R5 fits its width. -/
theorem digestFields_fit {u : Setup} (h : InRanges u) : ∀ f ∈ u.digestFields, f.2 < 2 ^ f.1 := by
  obtain ⟨address, depth, lower, upper, rated, constant, fixed, tol, stall, top, drop, fore, aft, sway, loadMin, loadMax⟩ := h
  have segment : u.rig.segment.code < 2 := by cases u.rig.segment <;> decide
  have mode : (match u.rig.stopMode with | .auto => 0 | .fixed => 1) < 2 := by cases u.rig.stopMode <;> decide
  simp only [Setup.digestFields, List.forall_mem_cons, List.not_mem_nil, false_imp_iff, implies_true, and_true]
  refine ⟨segment, mode, ?_⟩
  omega

theorem packFields_digestFields {u : Setup} (h : InRanges u) : packFields u.digestFields = digestNumber u := by
  rw [packFields_of_fits (digestFields_fit h)]
  simp only [Setup.digestFields, List.foldl_cons, List.foldl_nil, Nat.zero_mul, Nat.zero_add, Nat.pow_one]
  rfl

theorem digestSetImage_eq {u : Setup} (h : InRanges u) :
    digestSetImage (some u) = (List.range 24).map fun i => byteOf (digestNumber u / 256 ^ (23 - i)) := by
  simp only [← packFields_digestFields h, digestSetImage, Option.map_some, Option.getD_some, bytesBE, Nat.reduceSub]

theorem flatMap_b1 (ns : List Nat) : ns.flatMap b1 = ns.map byteOf := (List.map_eq_flatMap ..).symm

theorem padTo_of_length_le {k : Nat} {bs : List Byte} (h : bs.length ≤ k) :
    padTo k bs = bs ++ List.replicate (k - bs.length) 0#8 := by
  rw [padTo, List.take_append, List.take_of_length_le h, List.take_replicate, Nat.min_eq_left (Nat.sub_le _ _)]

theorem digestBondImage_eq (x : BondRec) (h : x.members.length ≤ 4) :
    digestBondImage (some x) = x.members.map byteOf ++ List.replicate (4 - x.members.length) 0#8 ++ be16 x.skew := by
  rw [digestBondImage, flatMap_b1, padTo_of_length_le (by rwa [List.length_map]), List.length_map]

/-! ## The lookups taken -/

/-- A lookup in good form that its owner answers without a change of the records. -/
theorem exec_lookup (k : Nat) {i : Instr} {l : Link} {tag : Word16} {r : Request} {s : State} {y : Reply} (desk : OpenDesk s l)
    (kind : kindOf r = k) (lookup : k ∈ lookupKinds) (request : exec i s = .next (takeRegular l tag r s)) (form : formOk r = true)
    (step : serve l r s = (s, y)) : ∃ t, exec i s = .next t ∧ AnswerOnly s t l k tag y := by
  subst kind
  refine ⟨_, request, ?_⟩
  rw [takeRegular_lookup tag desk lookup form, step]
  exact answerOnly_queueReply s l _ tag y

theorem ofCode_code (f : Segment) : Segment.ofCode? f.code = some f := by cases f <;> rfl

theorem serveLookupBond_noSuch {b : Nat} {s : State} (h : s.bond? b = none) : serveLookupBond b s = (s, Reply.of .noSuch) := by
  simp only [serveLookupBond, h]

theorem serveLookupBond_found {b : Nat} {s : State} {x : BondRec} (h : s.bond? b = some x) :
    serveLookupBond b s = (s, Reply.done (s.bondImage b x)) := by simp only [serveLookupBond, h]

theorem serveLookupSegment_eq (f : Segment) (s : State) : serveLookupSegment f.code s = (s, Reply.done (s.bus f).image) := by
  simp only [serveLookupSegment, ofCode_code]

theorem serveLookupStation_eq (f : Segment) (a : Nat) (s : State) :
    serveLookupStation f.code a s = (s, Reply.done (s.stationImage ((s.bus f).station a))) := by
  simp only [serveLookupStation, ofCode_code]

theorem lookupSet_settled (l : Link) (tag : Word16) (n : Nat) (s : State) (desk : OpenDesk s l) (lo : 1 ≤ n) (hi : n ≤ 128) :
    ∃ t p, exec (.lookupSet l tag n) s = .next t ∧ AnswerOnly s t l 41 tag (Reply.done p) ∧ p.length = 58 ∧
      p[0]? = some (byteOf n) ∧ p[1]? = some (byteOf (s.setRec n).state.code) ∧
      p[46]? = some (if (s.setRec n).setup = none then 0#8
        else if (s.liveClaim (s.moverOf n)).isSome then 2#8 else if s.untrusted (s.moverOf n) then 3#8 else 1#8) ∧
      SetImage s n p := by
  obtain ⟨t, taken, answered⟩ := exec_lookup 41 (i := .lookupSet l tag n) (r := .lookupSet n) desk rfl (by decide) rfl
    ((between_iff 1 128 n).2 ⟨lo, hi⟩) rfl
  exact ⟨t, s.setImage n, taken, answered, setImage_length s n, (setImage_field s n (i := 0) rfl).getElem? (i := 0) Nat.one_pos,
    (setImage_field s n (i := 1) rfl).getElem? (i := 0) Nat.one_pos, setImage_kind s n, setImage_spec s n⟩

theorem lookupBond_settled (l : Link) (tag : Word16) (b : Nat) (s : State) (desk : OpenDesk s l) (lo : 1 ≤ b) (hi : b ≤ 16) :
    ∃ t, exec (.lookupBond l tag b) s = .next t ∧
      match s.bond? b with
      | none => AnswerOnly s t l 42 tag (Reply.of .noSuch)
      | some x => ∃ p, AnswerOnly s t l 42 tag (Reply.done p) ∧ p.length = 18 ∧ p[1]? = some (byteOf (x.members.getD 0 0)) ∧
          p[17]? = some (if s.untrusted (.bond b) then 1#8 else 0#8) ∧
          BytesAt p 5 (be16 x.skew ++ [byteOf (x.claim.getD 0)] ++ shownRegion (match s.liveClaim (.bond b) with
            | some c => c.span
            | none => if s.untrusted (.bond b) then s.column (.bond b) else s.restingRegion (.bond b)) ++
            [if (s.liveClaim (.bond b)).isSome then 2#8 else if s.untrusted (.bond b) then 3#8 else 1#8]) := by
  have form : formOk (.lookupBond b) = true := (between_iff 1 16 b).2 ⟨lo, hi⟩
  cases found : s.bond? b with
  | none => exact exec_lookup 42 (r := .lookupBond b) desk rfl (by decide) rfl form (serveLookupBond_noSuch found)
  | some x =>
    obtain ⟨t, taken, answered⟩ :=
      exec_lookup 42 (i := .lookupBond l tag b) (r := .lookupBond b) desk rfl (by decide) rfl form (serveLookupBond_found found)
    exact ⟨t, taken, s.bondImage b x, answered, bondImage_length s b x, bondImage_head s b x, bondImage_untrusted s b x,
      bondImage_region s b x⟩

theorem lookupSegment_settled (l : Link) (tag : Word16) (f : Segment) (s : State) (desk : OpenDesk s l) :
    ∃ t p, exec (.lookupSegment l tag f.code) s = .next t ∧ AnswerOnly s t l 45 tag (Reply.done p) ∧ p.length = 16 ∧
      p[1]? = some (byteOf (s.bus f).state.code) ∧ p[3]? = some (byteOf (s.bus f).configured.length) ∧
      p[7]? = some (byteOf (s.bus f).idlePointer) := by
  have form : formOk (.lookupSegment f.code) = true := by rw [formOk, ofCode_code]; rfl
  obtain ⟨t, taken, answered⟩ := exec_lookup 45 (i := .lookupSegment l tag f.code) (r := .lookupSegment f.code) desk rfl
    (by decide) rfl form (serveLookupSegment_eq f s)
  exact ⟨t, (s.bus f).image, taken, answered, busImage_length _, (busImage_field _ (i := 1) rfl).getElem? (i := 0) Nat.one_pos,
    (busImage_field _ (i := 2) rfl).getElem? (i := 1) Nat.one_lt_two,
    (busImage_field _ (i := 4) rfl).getElem? (i := 1) Nat.one_lt_two⟩

theorem lookupStation_settled (l : Link) (tag : Word16) (f : Segment) (a : Nat) (s : State) (desk : OpenDesk s l) (lo : 1 ≤ a)
    (hi : a ≤ 64) :
    ∃ t p, exec (.lookupStation l tag f.code a) s = .next t ∧ AnswerOnly s t l 46 tag (Reply.done p) ∧ p.length = 22 ∧
      p[1]? = some (byteOf (((s.bus f).station a).set.getD 0)) ∧
      p.drop 17 = match ((s.bus f).station a).set with
        | none => List.replicate 5 0#8
        | some n => (s.contentFor n).bytes := by
  have form : formOk (.lookupStation f.code a) = true := by
    rw [formOk, ofCode_code]
    exact (between_iff 1 64 a).2 ⟨lo, hi⟩
  obtain ⟨t, taken, answered⟩ := exec_lookup 46 (i := .lookupStation l tag f.code a) (r := .lookupStation f.code a) desk rfl
    (by decide) rfl form (serveLookupStation_eq f a s)
  exact ⟨t, _, taken, answered, stationImage_length s _, (stationImage_field s _ (i := 1) rfl).getElem? (i := 0) Nat.one_pos,
    stationImage_content s _⟩

/-- Settles O9: the fields of each image at their offsets, and the digest's images as one number and as bytes. -/
theorem towerLookupsAnswer : Obligations.TowerLookupsAnswer :=
  ⟨lookupSet_settled, lookupBond_settled, lookupSegment_settled, lookupStation_settled,
    ⟨digestSetImage_none, fun _ h => digestSetImage_eq h⟩, ⟨rfl, digestBondImage_eq⟩, fun _ => rfl⟩

end Sys2Proof.Machine
end

section
/-! PROOF. The grants of the arbiter (O26): a claim granted (R35, R121), and a READY group granted member by member (R87). -/

namespace Sys2Proof.Machine

/-! ## One claim granted -/

theorem grantPlan_eq_some_iff {s : State} {c : ClaimRec} {v : Nat} {p : Plan} : s.grantPlan c v = some p ↔
    s.grantConditions c = true ∧ s.planOf c v = some p ∧ s.fits [c.mover] p.span = true := by
  refine ⟨grantPlan_conditions, fun ⟨conditions, plan, fits⟩ => ?_⟩
  rw [State.grantPlan, if_pos conditions, Option.filter_eq_some_iff]
  exact ⟨plan, fits⟩

theorem examine_claim_iff (s t : State) (n : Nat) : s.examine (.claim n) = some t ↔ ∃ c p, s.claim? n = some c ∧
    s.grantPlan c (c.requestedSpeed.getD 0) = some p ∧ t = s.grant c (c.requestedSpeed.getD 0) p := by
  cases found : s.claim? n with
  | none => simp [State.examine, found]
  | some c => simp [State.examine, found, ClaimRec.speed, eq_comm]

theorem grant_claim? (s : State) (c : ClaimRec) (v : Nat) (p : Plan) (n : Nat) : (s.grant c v p).claim? n =
    (s.claim? n).map fun x => if x.number = c.number then x.granted v p (s.openSupervision c p.starts) else x := by
  unfold State.grant
  rw [engage_frame]
  refine claim?_mapClaims s _ (fun x => ?_) n
  split <;> rfl

theorem grant_claim?_self {s : State} {c d : ClaimRec} (v : Nat) (p : Plan) (found : s.claim? c.number = some d) :
    (s.grant c v p).claim? c.number = some (d.granted v p (s.openSupervision c p.starts)) := by
  rw [grant_claim?, found, Option.map_some, if_pos (mem_of_claim? found).2]

theorem grant_claim?_other (s : State) {c : ClaimRec} (v : Nat) (p : Plan) {n : Nat} (other : n ≠ c.number) :
    (s.grant c v p).claim? n = s.claim? n := by
  rw [grant_claim?]
  cases found : s.claim? n with
  | none => rfl
  | some d => rw [Option.map_some, if_neg fun e => other ((mem_of_claim? found).2.symm.trans e)]

theorem grant_numbers (s : State) (c : ClaimRec) (v : Nat) (p : Plan) :
    (s.grant c v p).claims.map ClaimRec.number = s.claims.map ClaimRec.number := by
  rw [grant_claims, List.map_map]
  refine List.map_congr_left fun x _ => ?_
  rw [Function.comp_apply]
  split <;> rfl

theorem mem_grant_claims_of_ne {s : State} {c d : ClaimRec} (v : Nat) (p : Plan) (mem : d ∈ s.claims) (other : d.number ≠ c.number) :
    d ∈ (s.grant c v p).claims :=
  claims_of_grants (fun _ => v) [(c, p)] s d (fun q hq => by rw [List.mem_singleton.1 hq]; exact other.symm) mem

/-- The record that GrantedAs spells out is the record the model forms at a grant. -/
theorem grantedAs_iff (s t : State) (c : ClaimRec) (v : Nat) (p : Plan) :
    GrantedAs s t c v p ↔ t.claim? c.number = some (c.granted v p (s.openSupervision c p.starts)) := by
  unfold GrantedAs ClaimRec.granted State.openSupervision ClaimRec.fullDeadline
  cases c.kind <;> cases c.deadline <;> rfl

theorem claimGranted_settled (s t : State) (c : ClaimRec) (v : Nat) (p : Plan) (found : s.claim? c.number = some c)
    (granted : t = s.grant c v p) :
    t = { s with claims := t.claims, sets := t.sets } ∧ t.claims.map ClaimRec.number = s.claims.map ClaimRec.number ∧
      (∀ d ∈ s.claims, d.number ≠ c.number → d ∈ t.claims) ∧ GrantedAs s t c v p ∧
      ∀ k, t.setRec k = if k ∈ s.members c.mover ∧ 1 ≤ k ∧ k ≤ 128 then { s.setRec k with state := .engaged } else s.setRec k := by
  subst granted
  exact ⟨grant_frame s c v p, grant_numbers s c v p, fun _ mem other => mem_grant_claims_of_ne v p mem other,
    (grantedAs_iff ..).2 (grant_claim?_self v p found), grant_setRec s c v p⟩

/-! ## What a grant leaves to the grants after it -/

theorem grant_members (s : State) (c : ClaimRec) (v : Nat) (p : Plan) (m : Mover) : (s.grant c v p).members m = s.members m := by
  rw [grant_frame]
  cases m <;> rfl

theorem grant_setup (s : State) (c : ClaimRec) (v : Nat) (p : Plan) (n : Nat) :
    ((s.grant c v p).setRec n).setup = (s.setRec n).setup := by
  rw [grant_setRec]
  split <;> rfl

theorem grant_openSupervision (s : State) (c d : ClaimRec) (v : Nat) (p : Plan) (starts : List (Nat × Int)) :
    (s.grant c v p).openSupervision d starts = s.openSupervision d starts := by
  simp only [State.openSupervision, State.openMembers, grant_members, grant_setup]

theorem granted_granted (c : ClaimRec) (v : Nat) (p : Plan) (x : Supervision) : (c.granted v p x).granted v p x = c.granted v p x := rfl

/-! ## Several claims granted in order -/

/-- The claims of a list granted in its order, each with its plan, at speed `v` (R87). -/
def State.grantAll (s : State) (v : ClaimRec → Nat) (ps : List (ClaimRec × Plan)) : State :=
  ps.foldl (fun t p => t.grant p.1 (v p.1) p.2) s

theorem grantAll_cons (s : State) (v : ClaimRec → Nat) (q : ClaimRec × Plan) (ps : List (ClaimRec × Plan)) :
    s.grantAll v (q :: ps) = (s.grant q.1 (v q.1) q.2).grantAll v ps := rfl

theorem grantAll_numbers (s : State) (v : ClaimRec → Nat) (ps : List (ClaimRec × Plan)) :
    (s.grantAll v ps).claims.map ClaimRec.number = s.claims.map ClaimRec.number := by
  induction ps generalizing s with
  | nil => rfl
  | cons q ps ih => rw [grantAll_cons, ih, grant_numbers]

theorem grantAll_setRec (s : State) (v : ClaimRec → Nat) (ps : List (ClaimRec × Plan)) (k : Nat) :
    (s.grantAll v ps).setRec k = if (∃ q ∈ ps, k ∈ s.members q.1.mover) ∧ 1 ≤ k ∧ k ≤ 128
      then { s.setRec k with state := .engaged } else s.setRec k := by
  induction ps generalizing s with
  | nil => simp [State.grantAll]
  | cons q ps ih =>
    rw [grantAll_cons, ih, grant_setRec]
    simp only [grant_members, List.exists_mem_cons_iff]
    by_cases range : 1 ≤ k ∧ k ≤ 128 <;> by_cases head : k ∈ s.members q.1.mover <;>
      by_cases tail : ∃ q ∈ ps, k ∈ s.members q.1.mover <;> simp [range, head, tail]

/-- Every pair of the list that names the number of `c` is `c` with its plan `p`. -/
def AgreeOn (ps : List (ClaimRec × Plan)) (c : ClaimRec) (p : Plan) : Prop := ∀ q ∈ ps, c.number = q.1.number → q = (c, p)

/-- A claim granted stays as it was granted, if the list names it again. -/
theorem grantAll_keeps_granted {s : State} (v : ClaimRec → Nat) {ps : List (ClaimRec × Plan)} {c : ClaimRec} {p : Plan}
    (agree : AgreeOn ps c p) (found : s.claim? c.number = some (c.granted (v c) p (s.openSupervision c p.starts))) :
    (s.grantAll v ps).claim? c.number = some (c.granted (v c) p (s.openSupervision c p.starts)) := by
  induction ps generalizing s with
  | nil => exact found
  | cons q ps ih =>
    have same := grant_openSupervision s q.1 c (v q.1) q.2 p.starts
    rw [grantAll_cons, ← same]
    refine ih (fun r hr => agree r (List.mem_cons_of_mem _ hr)) ?_
    rw [same]
    by_cases e : c.number = q.1.number
    · obtain rfl := agree q (List.mem_cons_self ..) e
      rw [grant_claim?_self _ _ found, granted_granted]
    · rw [grant_claim?_other s _ _ e, found]

theorem grantAll_claim? {s : State} (v : ClaimRec → Nat) {ps : List (ClaimRec × Plan)} {c : ClaimRec} {p : Plan}
    (mem : (c, p) ∈ ps) (agree : AgreeOn ps c p) (found : s.claim? c.number = some c) :
    (s.grantAll v ps).claim? c.number = some (c.granted (v c) p (s.openSupervision c p.starts)) := by
  induction ps generalizing s with
  | nil => cases mem
  | cons q ps ih =>
    have tail : AgreeOn ps c p := fun r hr => agree r (List.mem_cons_of_mem _ hr)
    have same := grant_openSupervision s q.1 c (v q.1) q.2 p.starts
    rw [grantAll_cons, ← same]
    by_cases e : c.number = q.1.number
    · obtain rfl := agree q (List.mem_cons_self ..) e
      refine grantAll_keeps_granted v tail ?_
      rw [same, grant_claim?_self _ _ found]
    · refine ih ((List.mem_cons.1 mem).resolve_left fun h => e (h ▸ rfl)) tail ?_
      rw [grant_claim?_other s _ _ e, found]

/-! ## The plan of a group (R87) -/

/-- The spans of plans in their order, none meeting one before it. -/
def SpansApart (ps : List Plan) : Prop := ps.Pairwise fun a b => b.span.conflicts a.span = false

theorem planMembers_cons_iff {s : State} {v : ClaimRec → Nat} {accepted : List Region} {c : ClaimRec} {cs : List ClaimRec}
    {ps : List (ClaimRec × Plan)} : s.planMembers v accepted (c :: cs) = some ps ↔ ∃ p rest, ps = (c, p) :: rest ∧
      s.planOf c (v c) = some p ∧ s.fits [c.mover] p.span = true ∧ (∀ a ∈ accepted, p.span.conflicts a = false) ∧
      s.planMembers v (accepted ++ [p.span]) cs = some rest := by
  cases plan : s.planOf c (v c) with
  | none => simp [State.planMembers, plan]
  | some p =>
    have test : (s.fits [c.mover] p.span && !accepted.any p.span.conflicts) = true ↔
        s.fits [c.mover] p.span = true ∧ ∀ a ∈ accepted, p.span.conflicts a = false := by simp
    simp only [State.planMembers, plan, test, Option.ite_none_right_eq_some, Option.map_eq_some_iff, Option.some.injEq]
    constructor
    · rintro ⟨⟨fits, apart⟩, rest, planned, rfl⟩
      exact ⟨p, rest, rfl, rfl, fits, apart, planned⟩
    · rintro ⟨_, rest, rfl, rfl, fits, apart, planned⟩
      exact ⟨⟨fits, apart⟩, rest, planned, rfl⟩

theorem planMembers_eq_some_iff {s : State} {v : ClaimRec → Nat} {accepted : List Region} {cs : List ClaimRec}
    {ps : List (ClaimRec × Plan)} : s.planMembers v accepted cs = some ps ↔ ps.map Prod.fst = cs ∧
      (∀ q ∈ ps, s.planOf q.1 (v q.1) = some q.2 ∧ s.fits [q.1.mover] q.2.span = true) ∧
      SpansApart (ps.map Prod.snd) ∧ ∀ q ∈ ps, ∀ a ∈ accepted, q.2.span.conflicts a = false := by
  induction cs generalizing accepted ps with
  | nil =>
    rw [State.planMembers, List.map_eq_nil_iff, Option.some.injEq, eq_comm]
    refine ⟨?_, And.left⟩
    rintro rfl
    simp [SpansApart]
  | cons c cs ih =>
    rw [planMembers_cons_iff]
    constructor
    · rintro ⟨p, rest, rfl, plan, fits, apart, planned⟩
      obtain ⟨rfl, plans, spans, after⟩ := ih.1 planned
      refine ⟨rfl, List.forall_mem_cons.2 ⟨⟨plan, fits⟩, plans⟩, List.pairwise_cons.2 ⟨fun b mem => ?_, spans⟩,
        List.forall_mem_cons.2 ⟨apart, fun q hq a ha => after q hq a (List.mem_append_left _ ha)⟩⟩
      obtain ⟨q, hq, rfl⟩ := List.mem_map.1 mem
      exact after q hq _ (List.mem_append_right _ (List.mem_singleton.2 rfl))
    · rintro ⟨names, plans, spans, after⟩
      obtain ⟨⟨c, p⟩, rest, rfl, rfl, rfl⟩ := List.map_eq_cons_iff.1 names
      obtain ⟨⟨plan, fits⟩, plans⟩ := List.forall_mem_cons.1 plans
      obtain ⟨first, spans⟩ := List.pairwise_cons.1 spans
      obtain ⟨apart, after⟩ := List.forall_mem_cons.1 after
      refine ⟨p, rest, rfl, plan, fits, apart, ih.2 ⟨rfl, plans, spans, fun q hq a ha => ?_⟩⟩
      rcases List.mem_append.1 ha with ha | ha
      · exact after q hq a ha
      · exact List.mem_singleton.1 ha ▸ first q.2 (List.mem_map_of_mem hq)

/-- A claim with a plan has a configured lead: the span of no sets is no region. -/
theorem lead_of_grantPlan {s : State} {c : ClaimRec} {v : Nat} {p : Plan} (plan : s.grantPlan c v = some p) :
    ∃ n u, (s.members c.mover).head? = some n ∧ (s.setRec n).setup = some u := by
  obtain ⟨conditions, planned, -⟩ := grantPlan_conditions plan
  cases names : s.members c.mover with
  | nil =>
    cases kind : c.kind <;>
      simp [State.planOf, kind, State.sweptSpan, State.standbySpan, State.restingRegion, State.restingAt, State.startsOf, names,
        State.hullOver, Region.hullAll] at planned
  | cons n ns =>
    obtain ⟨configured, -, -⟩ := grantConditions_members conditions (n := n) (names ▸ List.mem_cons_self ..)
    obtain ⟨u, setup⟩ := Option.isSome_iff_exists.1 configured
    exact ⟨n, u, rfl, setup⟩

theorem travelOf_eq_leadGap {s : State} {c : ClaimRec} {n : Nat} (lead : (s.members c.mover).head? = some n) :
    s.travelOf c = leadGap s c := by
  simp [State.travelOf, State.leadTravel, State.lead, leadGap, lead]

/-- The test of step 2 of R87 for a mover with a configured lead. -/
theorem travels_iff {s : State} {c : ClaimRec} {n : Nat} {u : Setup} (lead : (s.members c.mover).head? = some n)
    (setup : (s.setRec n).setup = some u) : Travels s c ↔ s.leadTolerance c.mover < s.travelOf c := by
  simp [Travels, State.leadTolerance, State.lead, travelOf_eq_leadGap lead, lead, setup]

/-- Steps 1 to 4 of R87: the members in their order, each travelling and with a plan at its speed, the spans apart. -/
structure GroupPlanned (s : State) (sync : Bool) (cs : List ClaimRec) (ps : List (ClaimRec × Plan)) : Prop where
  names : ps.map Prod.fst = cs
  travels : ∀ c ∈ cs, Travels s c
  plans : ∀ q ∈ ps, s.grantPlan q.1 (s.groupSpeed sync cs q.1) = some q.2
  apart : SpansApart (ps.map Prod.snd)

theorem groupPlan_eq_some_iff {s : State} {x : GroupRec} {ps : List (ClaimRec × Plan)} :
    s.groupPlan x = some ps ↔ GroupPlanned s x.sync (s.memberClaims x) ps := by
  simp only [State.groupPlan, Option.ite_none_right_eq_some, planMembers_eq_some_iff, List.all_eq_true, Bool.and_eq_true,
    decide_eq_true_eq]
  constructor
  · rintro ⟨members, names, plans, apart, -⟩
    have planned : ∀ q ∈ ps, s.grantPlan q.1 (s.groupSpeed x.sync (s.memberClaims x) q.1) = some q.2 := fun q hq =>
      grantPlan_eq_some_iff.2 ⟨(members q.1 (names ▸ List.mem_map_of_mem hq)).1, plans q hq⟩
    refine ⟨names, fun c hc => ?_, planned, apart⟩
    obtain ⟨q, hq, rfl⟩ := List.mem_map.1 (names ▸ hc)
    obtain ⟨n, u, lead, setup⟩ := lead_of_grantPlan (planned q hq)
    exact (travels_iff lead setup).2 (members q.1 hc).2
  · rintro ⟨names, travels, planned, apart⟩
    refine ⟨fun c hc => ?_, names, fun q hq => (grantPlan_conditions (planned q hq)).2, apart, fun _ _ _ h => nomatch h⟩
    obtain ⟨q, hq, rfl⟩ := List.mem_map.1 (names ▸ hc)
    obtain ⟨n, u, lead, setup⟩ := lead_of_grantPlan (planned q hq)
    exact ⟨(grantPlan_conditions (planned q hq)).1, (travels_iff lead setup).1 (travels q.1 hc)⟩

/-- Plans and claims beside them in two lists are their pairs in one. -/
theorem groupPlanned_exists_iff (s : State) (sync : Bool) (cs : List ClaimRec) :
    (∃ ps, GroupPlanned s sync cs ps) ↔ (∀ c ∈ cs, Travels s c) ∧ ∃ ps : List Plan, ps.length = cs.length ∧ SpansApart ps ∧
      ∀ (i : Nat) (c : ClaimRec) (p : Plan), cs[i]? = some c → ps[i]? = some p →
        s.grantPlan c (s.groupSpeed sync cs c) = some p := by
  constructor
  · rintro ⟨ps, names, travels, plans, apart⟩
    refine ⟨travels, ps.map Prod.snd, by rw [← names, List.length_map, List.length_map], apart, fun i c p hc hp => ?_⟩
    rw [← names, List.getElem?_map, Option.map_eq_some_iff] at hc
    obtain ⟨q, hq, rfl⟩ := hc
    rw [List.getElem?_map, hq, Option.map_some, Option.some.injEq] at hp
    exact hp ▸ plans q (List.mem_of_getElem? hq)
  · rintro ⟨travels, ps, lengths, apart, plans⟩
    have snds : (cs.zip ps).map Prod.snd = ps := List.map_snd_zip (Nat.le_of_eq lengths)
    refine ⟨cs.zip ps, List.map_fst_zip (Nat.le_of_eq lengths.symm), travels, fun q hq => ?_, by rwa [snds]⟩
    obtain ⟨i, hi⟩ := List.mem_iff_getElem?.1 hq
    obtain ⟨hc, hp⟩ := List.getElem?_zip_eq_some.1 hi
    exact plans i q.1 q.2 hc hp

/-! ## A group granted -/

theorem grantGroup_eq (s : State) (g : Nat) (x : GroupRec) (ps : List (ClaimRec × Plan)) : s.grantGroup g x ps =
    (s.grantAll (s.groupSpeed x.sync (s.memberClaims x)) ps).putGroup g (some { x with state := .granted, timer := none }) := rfl

theorem examine_group_iff {s t : State} {g : Nat} {x : GroupRec} (found : s.group? g = some x) :
    s.examine (.group g) = some t ↔ ∃ ps, GroupPlanned s x.sync (s.memberClaims x) ps ∧ t = s.grantGroup g x ps := by
  simp only [State.examine, found, Option.map_eq_some_iff, groupPlan_eq_some_iff, eq_comm (b := t)]

theorem grantGroup_group? {s : State} {g : Nat} {x : GroupRec} (ps : List (ClaimRec × Plan)) (found : s.group? g = some x) (k : Nat) :
    (s.grantGroup g x ps).group? k = if k = g then some { x with state := .granted, timer := none } else s.group? k := by
  unfold State.grantGroup
  rw [group?_putGroup, grantAll_frame]
  simp only [Tab.record?_range found, and_true]
  rfl

theorem grantGroup_settled {s t : State} {g : Nat} {x : GroupRec} {cs : List ClaimRec} (found : s.group? g = some x)
    (members : cs = x.members.filterMap s.claim?) (granted : s.examine (.group g) = some t) :
    t = { s with claims := t.claims, sets := t.sets, groups := t.groups } ∧
      (∀ k, t.group? k = if k = g then some { x with state := .granted, timer := none } else s.group? k) ∧
      t.claims.map ClaimRec.number = s.claims.map ClaimRec.number ∧
      (∀ d ∈ s.claims, d.number ∉ x.members → d ∈ t.claims) ∧
      (∀ c ∈ cs, ∃ p, s.grantPlan c (s.groupSpeed x.sync cs c) = some p ∧ GrantedAs s t c (s.groupSpeed x.sync cs c) p) ∧
      ∀ k, t.setRec k = if (∃ c ∈ cs, k ∈ s.members c.mover) ∧ 1 ≤ k ∧ k ≤ 128
        then { s.setRec k with state := .engaged } else s.setRec k := by
  obtain ⟨ps, ⟨names, -, plans, -⟩, rfl⟩ := (examine_group_iff found).1 granted
  replace members : s.memberClaims x = cs := members.symm
  rw [members] at names plans
  have numbered : ∀ c ∈ cs, c.number ∈ x.members ∧ s.claim? c.number = some c := by
    intro c hc
    obtain ⟨n, hn, claim⟩ := List.mem_filterMap.1 (members.symm ▸ hc : c ∈ s.memberClaims x)
    obtain rfl := (mem_of_claim? claim).2
    exact ⟨hn, claim⟩
  have named : ∀ q ∈ ps, q.1 ∈ cs := fun q hq => names ▸ List.mem_map_of_mem hq
  have all := grantGroup_eq s g x ps
  rw [members] at all
  refine ⟨grantGroup_frame s g x ps, grantGroup_group? ps found, ?_, fun d hd other => ?_, fun c hc => ?_, fun k => ?_⟩
  · exact all ▸ grantAll_numbers s _ ps
  · rw [all]
    exact claims_of_grants _ ps s d (fun q hq e => other (e ▸ (numbered q.1 (named q hq)).1)) hd
  · obtain ⟨q, hq, rfl⟩ := List.mem_map.1 (names ▸ hc)
    have claim := (numbered q.1 hc).2
    have agree : AgreeOn ps q.1 q.2 := by
      intro r hr e
      have same : q.1 = r.1 := Option.some.inj (claim.symm.trans (e ▸ (numbered r.1 (named r hr)).2))
      exact Prod.ext same.symm (Option.some.inj ((plans r hr).symm.trans (same ▸ plans q hq)))
    exact ⟨q.2, plans q hq, (grantedAs_iff ..).2 (all ▸ grantAll_claim? _ hq agree claim)⟩
  · have movers : (∃ c ∈ cs, k ∈ s.members c.mover) ↔ ∃ q ∈ ps, k ∈ s.members q.1.mover := by
      simp [← names]
    simp only [movers]
    exact all ▸ grantAll_setRec s _ ps k

theorem groupGrantable_settled (s : State) (g : Nat) (x : GroupRec) (cs : List ClaimRec) (found : s.group? g = some x)
    (members : cs = x.members.filterMap s.claim?) :
    s.examine (.group g) ≠ none ↔ (∀ c ∈ cs, Travels s c) ∧ ∃ ps : List Plan, ps.length = cs.length ∧ SpansApart ps ∧
      ∀ (i : Nat) (c : ClaimRec) (p : Plan), cs[i]? = some c → ps[i]? = some p →
        s.grantPlan c (s.groupSpeed x.sync cs c) = some p := by
  rw [← groupPlanned_exists_iff, Option.ne_none_iff_exists']
  subst members
  constructor
  · rintro ⟨t, granted⟩
    obtain ⟨ps, planned, -⟩ := (examine_group_iff found).1 granted
    exact ⟨ps, planned⟩
  · rintro ⟨ps, planned⟩
    exact ⟨_, (examine_group_iff found).2 ⟨ps, planned, rfl⟩⟩

end Sys2Proof.Machine
end

section
/-! PROOF. The wait queues and the passes of the arbiter (O26): what a turn can do, that a pass ends before its count of turns is spent, and a pass turn by turn (R63, R64, R70 to R72). -/

namespace Sys2Proof.Machine

/-! ## The wait queue (R63, R64) -/

theorem queueOf_class (s : State) (l : Link) (k : ClaimClass) :
    ((s.claims.filterMap (s.entryOf l)).filter fun e => decide (e.2 = k)).map Prod.fst = entriesOf s l k := by
  rw [entriesOf, List.filter_filterMap, List.map_filterMap]
  refine List.filterMap_congr fun c _ => ?_
  unfold State.entryOf
  by_cases waits : c.state = .waiting ∧ c.owner = l
  · have present : ¬ (c.state ≠ .waiting ∨ c.owner ≠ l) := fun h => h.elim (absurd waits.1) (absurd waits.2)
    rw [if_pos waits, if_neg present]
    cases c.group with
    | none => by_cases cls : c.cls = k <;> simp [cls]
    | some g =>
      cases found : s.group? g with
      | none => simp [found]
      | some x =>
        by_cases first : x.state = .ready ∧ x.members.head? = some c.number <;> by_cases cls : x.cls = k <;>
          simp [found, ← and_assoc, first, cls]
  · have absent : c.state ≠ .waiting ∨ c.owner ≠ l := not_and_or.1 waits
    rw [if_neg waits, if_pos absent]
    rfl

theorem queueOf_settled (s : State) (l : Link) : s.queueOf l = entriesOf s l .forShow ++ entriesOf s l .forWork := by
  rw [← queueOf_class, ← queueOf_class]
  rfl

theorem queuesEmpty_iff (s : State) :
    s.queuesEmpty = true ↔ s.queueOf .dl0 = [] ∧ s.queueOf .dl1 = [] ∧ s.queueOf .dl2 = [] := by
  simp [State.queuesEmpty, and_assoc]

theorem queuesEmpty_iff_forall (s : State) : s.queuesEmpty = true ↔ ∀ l, s.queueOf l = [] := by
  rw [queuesEmpty_iff]
  refine ⟨fun ⟨h0, h1, h2⟩ l => ?_, fun h => ⟨h _, h _, h _⟩⟩
  cases l
  · exact h0
  · exact h1
  · exact h2

/-- An entry of a queue stands for a claim that waits: the claim itself, or the first member of the group. -/
theorem mem_queueOf {s : State} {l : Link} {e : Entry} (entry : e ∈ s.queueOf l) : ∃ c ∈ s.claims, c.state = .waiting ∧
    (e = .claim c.number ∨ ∃ g x, e = .group g ∧ s.group? g = some x ∧ x.members.head? = some c.number) := by
  obtain ⟨⟨_, k⟩, mem, rfl⟩ := List.mem_map.1 ((queueOf_perm s l).mem_iff.1 entry)
  obtain ⟨c, mem, stands⟩ := List.mem_filterMap.1 mem
  unfold State.entryOf at stands
  split at stands
  next waits =>
    refine ⟨c, mem, waits.1, ?_⟩
    split at stands
    next => exact .inl (congrArg Prod.fst (Option.some.inj stands)).symm
    next g _ =>
      split at stands
      next x found =>
        split at stands
        next first => exact .inr ⟨g, x, (congrArg Prod.fst (Option.some.inj stands)).symm, found, first.2⟩
        next => cases stands
      next => cases stands
  next => cases stands

/-! ## How many claims wait -/

/-- The number of claims in WAITING: what a turn that grants makes smaller. -/
def State.waitingCount (s : State) : Nat := s.claims.countP fun c => decide (c.state = .waiting)

/-- No claim numbered `n` waits. -/
def NoneWaits (n : Nat) (s : State) : Prop := ∀ c ∈ s.claims, c.number = n → c.state ≠ .waiting

theorem Regranted.waiting {c d : ClaimRec} (h : Regranted c d) (waits : d.state = .waiting) : c.state = .waiting := by
  rcases h.state with rfl | granted | standing
  · exact waits
  · rw [granted] at waits
    cases waits
  · rw [standing] at waits
    cases waits

theorem countP_map_le {α : Type} {p : α → Bool} {f : α → α} (keeps : ∀ x, p (f x) = true → p x = true) (xs : List α) :
    (xs.map f).countP p ≤ xs.countP p := by
  rw [List.countP_map]
  exact List.countP_mono_left fun x _ => keeps x

theorem Granting.waitingCount_le {s t : State} (h : Granting s t) : t.waitingCount ≤ s.waitingCount := by
  obtain ⟨f, claims, regranted⟩ := h.claims
  rw [State.waitingCount, claims]
  exact countP_map_le (fun c waits => by simpa using (regranted c).waiting (by simpa using waits)) _

theorem Granting.waitingCount_lt {s t : State} (h : Granting s t) {c : ClaimRec} (mem : c ∈ s.claims) (waits : c.state = .waiting)
    (idle : NoneWaits c.number t) : t.waitingCount < s.waitingCount := by
  obtain ⟨f, claims, regranted⟩ := h.claims
  have keeps : ∀ d : ClaimRec, decide ((f d).state = .waiting) = true → decide (d.state = .waiting) = true := fun d w => by
    simpa using (regranted d).waiting (by simpa using w)
  have gone : (f c).state ≠ .waiting :=
    idle (f c) (claims ▸ List.mem_map_of_mem mem) (by rw [(regranted c).same])
  obtain ⟨before, after, split⟩ := List.append_of_mem mem
  have h1 := countP_map_le (p := fun d => decide (d.state = .waiting)) keeps before
  have h2 := countP_map_le (p := fun d => decide (d.state = .waiting)) keeps after
  rw [State.waitingCount, State.waitingCount, claims, split]
  simp only [List.map_append, List.map_cons, List.countP_append, List.countP_cons, waits, gone, decide_true, decide_false,
    if_true, Bool.false_eq_true, if_false]
  omega

theorem waitingCount_le_length (s : State) : s.waitingCount ≤ s.claims.length := List.countP_le_length

/-! ## An entry examined (R71) -/

theorem granted_not_waiting (c : ClaimRec) (v : Nat) (p : Plan) (x : Supervision) : (c.granted v p x).state ≠ .waiting := by
  unfold ClaimRec.granted
  cases c.kind <;> exact fun h => nomatch h

theorem noneWaits_grant {s : State} {c : ClaimRec} {n : Nat} (v : Nat) (p : Plan) (idle : c.number = n ∨ NoneWaits n s) :
    NoneWaits n (s.grant c v p) := by
  intro d mem number
  rw [grant_claims] at mem
  obtain ⟨x, before, rfl⟩ := List.mem_map.1 mem
  by_cases same : x.number = c.number
  · rw [if_pos same]
    exact granted_not_waiting _ _ _ _
  · rw [if_neg same] at number ⊢
    exact idle.resolve_left (fun e => same (number.trans e.symm)) x before number

theorem noneWaits_grantAll (s : State) (v : ClaimRec → Nat) {ps : List (ClaimRec × Plan)} {n : Nat}
    (idle : NoneWaits n s ∨ ∃ q ∈ ps, q.1.number = n) : NoneWaits n (s.grantAll v ps) := by
  induction ps generalizing s with
  | nil => exact idle.resolve_right fun ⟨_, mem, _⟩ => nomatch mem
  | cons q ps ih =>
    rw [grantAll_cons]
    refine ih _ ?_
    rcases idle with idle | ⟨r, mem, number⟩
    · exact .inl (noneWaits_grant _ _ (.inr idle))
    · rcases List.mem_cons.1 mem with rfl | mem
      · exact .inl (noneWaits_grant _ _ (.inl number))
      · exact .inr ⟨r, mem, number⟩

/-- A grant of an entry of a queue leaves fewer claims waiting. -/
theorem examine_waitingCount_lt {s t : State} {l : Link} {e : Entry} (entry : e ∈ s.queueOf l) (granted : s.examine e = some t) :
    t.waitingCount < s.waitingCount := by
  obtain ⟨c, mem, waits, stands⟩ := mem_queueOf entry
  refine (examine_granting granted).waitingCount_lt mem waits ?_
  rcases stands with rfl | ⟨g, x, rfl, found, first⟩
  · obtain ⟨d, p, claim, -, rfl⟩ := (examine_claim_iff ..).1 granted
    exact noneWaits_grant _ _ (.inl (mem_of_claim? claim).2)
  · obtain ⟨ps, planned, rfl⟩ := (examine_group_iff found).1 granted
    obtain ⟨d, claim⟩ : ∃ d, s.claim? c.number = some d :=
      Option.isSome_iff_exists.1 (List.find?_isSome.2 ⟨c, mem, decide_eq_true rfl⟩)
    have member : d ∈ s.memberClaims x := List.mem_filterMap.2 ⟨c.number, List.mem_of_mem_head? first, claim⟩
    obtain ⟨q, hq, rfl⟩ := List.mem_map.1 (planned.names ▸ member)
    exact noneWaits_grantAll s _ (.inr ⟨q, hq, (mem_of_claim? claim).2⟩)

/-- A grant leaves the pointer and the count of the turn to the arbiter. -/
theorem examine_tables {s t : State} {e : Entry} (granted : s.examine e = some t) :
    t = { s with claims := t.claims, sets := t.sets, groups := t.groups } := by
  cases e with
  | claim n =>
    obtain ⟨c, p, -, -, rfl⟩ := (examine_claim_iff ..).1 granted
    rw [grant_frame]
  | group g =>
    cases found : s.group? g with
    | none => simp [State.examine, found] at granted
    | some x =>
      obtain ⟨ps, -, rfl⟩ := (examine_group_iff found).1 granted
      exact grantGroup_frame s g x ps

theorem examine_served {s t : State} {e : Entry} (granted : s.examine e = some t) : t.served = s.served := by
  rw [examine_tables granted]

theorem examine_pointer {s t : State} {e : Entry} (granted : s.examine e = some t) : t.pointer = s.pointer := by
  rw [examine_tables granted]

/-- The arbiter's own record, the pointer and the count replaced. -/
def State.turnAt (s : State) (l : Link) (k : Nat) : State := { s with pointer := l, served := k }

theorem planMembers_turnAt (s : State) (l : Link) (k : Nat) (v : ClaimRec → Nat) (accepted : List Region) (cs : List ClaimRec) :
    (s.turnAt l k).planMembers v accepted cs = s.planMembers v accepted cs := by
  induction cs generalizing accepted with
  | nil => rfl
  | cons c cs ih =>
    simp only [State.planMembers, ih]
    rfl

theorem groupPlan_turnAt (s : State) (l : Link) (k : Nat) (x : GroupRec) : (s.turnAt l k).groupPlan x = s.groupPlan x := by
  simp only [State.groupPlan, planMembers_turnAt]
  rfl

theorem examine_turnAt (s : State) (l : Link) (k : Nat) (e : Entry) :
    (s.turnAt l k).examine e = none ↔ s.examine e = none := by
  cases e with
  | claim n =>
    have plan : ∀ c, (s.turnAt l k).grantPlan c c.speed = s.grantPlan c c.speed := fun _ => rfl
    have claim : (s.turnAt l k).claim? n = s.claim? n := rfl
    simp only [State.examine, claim]
    cases s.claim? n <;> simp [plan]
  | group g =>
    have group : (s.turnAt l k).group? g = s.group? g := rfl
    simp only [State.examine, group]
    cases s.group? g <;> simp [groupPlan_turnAt]

/-! ## A turn (R71) -/

theorem examineAll_of_refused {s : State} {w : Nat} {e : Entry} (es : List Entry) (b : Bool) (refused : s.examine e = none) :
    examineAll w (e :: es) s b = examineAll w es s b := by simp only [examineAll, refused]

theorem examineAll_of_granted {s t : State} {w : Nat} {e : Entry} (es : List Entry) (b : Bool) (granted : s.examine e = some t)
    (unspent : s.served < w) : examineAll w (e :: es) s b =
      if s.served + 1 = w then ({ t with served := w }, true) else examineAll w es { t with served := s.served + 1 } true := by
  simp only [examineAll, granted, examine_served granted]
  by_cases last : s.served + 1 = w
  · rw [if_pos (Nat.le_of_eq last.symm), if_pos last, last]
  · rw [if_neg (by omega), if_neg last]

theorem Granting.turnAt {s t : State} (h : Granting s t) (l : Link) (k : Nat) : Granting s (t.turnAt l k) :=
  h.trans ⟨rfl, ⟨id, by simp [State.turnAt], Regranted.refl⟩, fun _ => .inl rfl, fun _ => .inl rfl⟩

theorem examineAll_granting (w : Nat) (es : List Entry) (s : State) (b : Bool) : Granting s (examineAll w es s b).1 :=
  examineAll_keeps (Granting s) (fun _ l k h => h.turnAt l k) (fun _ _ _ h k => h.trans (examine_granting k)) w es s b (Granting.refl s)

theorem examineAll_pointer (w : Nat) (es : List Entry) (s : State) (b : Bool) : (examineAll w es s b).1.pointer = s.pointer := by
  induction es generalizing s b with
  | nil => rfl
  | cons e es ih =>
    unfold examineAll
    split
    next => exact ih s b
    next t granted =>
      have pointer : t.pointer = s.pointer := examine_pointer granted
      split
      next => exact pointer
      next => exact (ih _ true).trans pointer

/-- A turn that granted says so to its end. -/
theorem examineAll_true (w : Nat) (es : List Entry) (s : State) : (examineAll w es s true).2 = true := by
  induction es generalizing s with
  | nil => rfl
  | cons e es ih =>
    unfold examineAll
    split
    next => exact ih s
    next =>
      split
      next => rfl
      next => exact ih _

/-- The entries of a turn are all refused, or the first one granted starts what the turn grants. -/
theorem examineAll_cases (w : Nat) (es : List Entry) (s : State) :
    (∀ e ∈ es, s.examine e = none) ∧ examineAll w es s false = (s, false) ∨
      ∃ e ∈ es, ∃ t, s.examine e = some t ∧ Granting t (examineAll w es s false).1 ∧ (examineAll w es s false).2 = true := by
  induction es with
  | nil => exact .inl ⟨fun _ h => (nomatch h), rfl⟩
  | cons e es ih =>
    cases examined : s.examine e with
    | none =>
      rw [examineAll_of_refused es false examined]
      rcases ih with ⟨refused, same⟩ | ⟨d, mem, t, granted, rest⟩
      · exact .inl ⟨List.forall_mem_cons.2 ⟨examined, refused⟩, same⟩
      · exact .inr ⟨d, List.mem_cons_of_mem _ mem, t, granted, rest⟩
    | some t =>
      refine .inr ⟨e, List.mem_cons_self .., t, examined, ?_⟩
      have counted : Granting t { t with served := t.served + 1 } := (Granting.refl t).turnAt t.pointer _
      simp only [examineAll, examined]
      split
      · exact ⟨counted, rfl⟩
      · exact ⟨counted.trans (examineAll_granting ..), examineAll_true ..⟩

/-- The desk is not LOST and an entry of its queue would be granted. -/
def DeskGrants (s : State) (l : Link) : Prop := (s.link l).presence ≠ .lost ∧ ∃ e ∈ s.queueOf l, s.examine e ≠ none

theorem someGrantable_iff (s : State) : SomeGrantable s ↔ ∃ l, DeskGrants s l :=
  ⟨fun ⟨l, e, present, entry, granted⟩ => ⟨l, present, e, entry, granted⟩,
    fun ⟨l, present, e, entry, granted⟩ => ⟨l, e, present, entry, granted⟩⟩

/-- Whether a desk has an entry to grant does not rest on whose turn it is. -/
theorem deskGrants_turnAt (s : State) (p : Link) (k : Nat) (l : Link) : DeskGrants (s.turnAt p k) l ↔ DeskGrants s l := by
  have queue : (s.turnAt p k).queueOf l = s.queueOf l := rfl
  have link : (s.turnAt p k).link l = s.link l := rfl
  simp only [DeskGrants, queue, link, Ne, examine_turnAt]

/-- What a turn that grants does: grants that leave fewer claims waiting. -/
structure TurnGranted (s t : State) : Prop where
  turn : s.turn = (t, true)
  granting : Granting s t
  pointer : t.pointer = s.pointer
  fewer : t.waitingCount < s.waitingCount

/-- What a turn can do. -/
theorem turn_cases (s : State) :
    ¬ DeskGrants s s.pointer ∧ s.turn = (s, false) ∨ DeskGrants s s.pointer ∧ ∃ t, TurnGranted s t := by
  by_cases lost : (s.link s.pointer).presence = .lost
  · exact .inl ⟨fun h => h.1 lost, if_pos lost⟩
  · have turn : s.turn = examineAll (s.weights.get s.pointer) (s.queueOf s.pointer) s false := if_neg lost
    have pointer := examineAll_pointer (s.weights.get s.pointer) (s.queueOf s.pointer) s false
    rcases examineAll_cases (s.weights.get s.pointer) (s.queueOf s.pointer) s with
      ⟨refused, same⟩ | ⟨e, entry, t, granted, granting, flag⟩
    · exact .inl ⟨fun ⟨_, e, entry, granted⟩ => granted (refused e entry), turn.trans same⟩
    · rw [← turn] at pointer granting flag
      refine .inr ⟨⟨lost, e, entry, by rw [granted]; exact Option.some_ne_none t⟩, s.turn.1, Prod.ext rfl flag, ?_, pointer, ?_⟩
      · exact (examine_granting granted).trans granting
      · exact Nat.lt_of_le_of_lt granting.waitingCount_le (examine_waitingCount_lt entry granted)

theorem turn_of_not_deskGrants {s : State} (h : ¬ DeskGrants s s.pointer) : s.turn = (s, false) :=
  ((turn_cases s).resolve_right fun k => h k.1).2

theorem turnGranted_of_deskGrants {s : State} (h : DeskGrants s s.pointer) : ∃ t, TurnGranted s t :=
  ((turn_cases s).resolve_left fun k => k.1 h).2

/-! ## Turns until the pass ends (R72) -/

theorem passTurns_of_refused {s : State} (turn : s.turn = (s, false)) (fuel empty : Nat) : passTurns (fuel + 1) empty s =
    if 2 ≤ empty then s.nextDesk else passTurns fuel (empty + 1) s.nextDesk := by simp [passTurns, turn]

theorem passTurns_of_granted {s t : State} (turn : s.turn = (t, true)) (fuel empty : Nat) : passTurns (fuel + 1) empty s =
    if t.queuesEmpty = true then t else passTurns fuel 0 t.nextDesk := by simp [passTurns, turn]

/-- Three turns for every claim that waits, and three to end the pass: more turns are not used. -/
theorem passTurns_enough {fuel more empty : Nat} {s : State} (few : empty ≤ 2) (enough : 3 * s.waitingCount + 3 ≤ fuel + empty)
    (atLeast : fuel ≤ more) : passTurns more empty s = passTurns fuel empty s := by
  induction fuel generalizing more empty s with
  | zero => omega
  | succ fuel ih =>
    obtain ⟨more, rfl⟩ : ∃ k, more = k + 1 := ⟨more - 1, by omega⟩
    rcases turn_cases s with ⟨-, turn⟩ | ⟨-, t, ⟨turn, -, -, fewer⟩⟩
    · rw [passTurns_of_refused turn, passTurns_of_refused turn]
      split
      next => rfl
      next => exact ih (by omega) (by show 3 * s.waitingCount + 3 ≤ _; omega) (by omega)
    · rw [passTurns_of_granted turn, passTurns_of_granted turn]
      split
      next => rfl
      next => exact ih (by omega) (by show 3 * t.waitingCount + 3 ≤ _; omega) (by omega)

/-- A turn that grants ends the run of empty turns before it. -/
theorem passTurns_of_deskGrants {s : State} (grants : DeskGrants s s.pointer) {fuel more : Nat} (enough : 3 * s.waitingCount ≤ fuel)
    (atLeast : fuel ≤ more) (empty empty' : Nat) : passTurns (more + 1) empty s = passTurns (fuel + 1) empty' s := by
  obtain ⟨t, ⟨turn, -, -, fewer⟩⟩ := turnGranted_of_deskGrants grants
  rw [passTurns_of_granted turn, passTurns_of_granted turn]
  split
  next => rfl
  next => exact passTurns_enough (by omega) (by show 3 * t.waitingCount + 3 ≤ _; omega) atLeast

/-! ## A pass (R70) -/

theorem grantsAllowed_iff (s : State) : s.grantsAllowed = true ↔ s.stop.state = .run ∧ s.stop.holdAll = false := by
  simp [State.grantsAllowed]

theorem pass_of_idle {s : State} (idle : s.stop.state ≠ .run ∨ s.stop.holdAll = true ∨ ∀ l, s.queueOf l = []) : s.pass = s := by
  unfold State.pass
  by_cases allowed : s.grantsAllowed = true
  · obtain ⟨run, holdOff⟩ := (grantsAllowed_iff s).1 allowed
    have empty : s.queuesEmpty = true :=
      (queuesEmpty_iff_forall s).2 ((idle.resolve_left (absurd run)).resolve_left (by rw [holdOff]; decide))
    rw [if_neg (by simp [allowed]), if_pos empty]
  · rw [if_pos (by simpa using allowed)]

/-- A pass that takes turns: grants are allowed and a queue has an entry. -/
structure PassOpen (s : State) : Prop where
  allowed : s.grantsAllowed = true
  entries : s.queuesEmpty = false

theorem PassOpen.turnAt {s : State} (h : PassOpen s) (l : Link) (k : Nat) : PassOpen (s.turnAt l k) := ⟨h.allowed, h.entries⟩

theorem PassOpen.pass {s : State} (h : PassOpen s) : s.pass =
    let s1 := if s.weights.get s.pointer ≤ s.served then s.nextDesk else s
    passTurns s1.passFuel 0 s1 := by
  unfold State.pass
  rw [if_neg (by simp [h.allowed]), if_neg (by simp [h.entries])]

/-- A pass from an unspent turn, with as many turns as suffice. -/
theorem PassOpen.pass_eq {s : State} (h : PassOpen s) (unspent : s.served < s.weights.get s.pointer) {fuel : Nat}
    (enough : 3 * s.waitingCount + 3 ≤ fuel) (few : fuel ≤ s.passFuel) : s.pass = passTurns fuel 0 s := by
  rw [h.pass, if_neg (Nat.not_le.2 unspent)]
  exact passTurns_enough (Nat.zero_le 2) enough few

theorem waiting_le_passFuel (s : State) : 3 * s.waitingCount + 3 ≤ s.passFuel := by
  have := waitingCount_le_length s
  unfold State.passFuel
  omega

theorem pass_of_spent {s : State} (h : PassOpen s) (weights : ∀ l, 1 ≤ s.weights.get l) (spent : s.weights.get s.pointer ≤ s.served) :
    s.pass = (s.turnAt s.pointer.next 0).pass := by
  rw [h.pass, if_pos spent]
  exact ((h.turnAt _ _).pass_eq (weights _) (waiting_le_passFuel _) (Nat.le_refl _)).symm

theorem pass_of_granted {s t : State} (h : PassOpen s) (weights : ∀ l, 1 ≤ s.weights.get l)
    (unspent : s.served < s.weights.get s.pointer) (turn : s.turn = (t, true)) : s.pass =
      if t.queueOf .dl0 = [] ∧ t.queueOf .dl1 = [] ∧ t.queueOf .dl2 = [] then t else (t.turnAt s.pointer.next 0).pass := by
  obtain ⟨u, ⟨granted, granting, pointer, fewer⟩⟩ : ∃ u, TurnGranted s u :=
    ((turn_cases s).resolve_left fun ⟨_, refused⟩ => by cases turn.symm.trans refused).2
  obtain rfl : u = t := congrArg Prod.fst (granted.symm.trans turn)
  have length := waitingCount_le_length s
  have claims : u.claims.length = s.claims.length := by simpa using congrArg List.length granting.numbers
  rw [h.pass_eq unspent (fuel := s.passFuel) (waiting_le_passFuel s) (Nat.le_refl _), State.passFuel, passTurns_of_granted turn]
  by_cases entries : u.queuesEmpty = true
  · rw [if_pos entries, if_pos ((queuesEmpty_iff u).1 entries)]
  · rw [if_neg entries, if_neg fun k => entries ((queuesEmpty_iff u).2 k)]
    have weight : u.weights = s.weights := by rw [granting.frame]
    have stop : u.stop = s.stop := by rw [granting.frame]
    have opened : PassOpen u :=
      ⟨(grantsAllowed_iff u).2 (stop ▸ (grantsAllowed_iff s).1 h.allowed), Bool.not_eq_true _ ▸ entries⟩
    have next : u.nextDesk = u.turnAt s.pointer.next 0 := by rw [← pointer]; rfl
    rw [next]
    refine ((opened.turnAt _ _).pass_eq ?_ ?_ ?_).symm
    · show 1 ≤ u.weights.get _
      rw [weight]
      exact weights _
    · show 3 * u.waitingCount + 3 ≤ _
      omega
    · show _ ≤ 3 * u.claims.length + 3
      omega

theorem link_next_next_next (l : Link) : l.next.next.next = l := by cases l <;> rfl

theorem link_eq_or_next (l p : Link) : l = p ∨ l = p.next ∨ l = p.next.next := by cases l <;> cases p <;> decide

theorem pass_of_refused {s : State} (h : PassOpen s) (weights : ∀ l, 1 ≤ s.weights.get l)
    (unspent : s.served < s.weights.get s.pointer) (refused : s.turn.2 = false) (grantable : SomeGrantable s) :
    s.pass = (s.turnAt s.pointer.next 0).pass := by
  obtain ⟨here, turn⟩ := (turn_cases s).resolve_right fun ⟨_, t, granted⟩ => by rw [granted.turn] at refused; cases refused
  have length := waitingCount_le_length s
  rw [h.pass_eq unspent (waiting_le_passFuel _) (Nat.le_refl _),
    (h.turnAt _ _).pass_eq (weights _) (waiting_le_passFuel _) (Nat.le_refl _)]
  show passTurns (3 * s.claims.length + 2 + 1) 0 s = passTurns (3 * s.claims.length + 2 + 1) 0 s.nextDesk
  rw [passTurns_of_refused turn, if_neg (by decide)]
  by_cases there : DeskGrants s s.pointer.next
  · exact (passTurns_of_deskGrants ((deskGrants_turnAt ..).2 there) (fuel := 3 * s.claims.length + 1)
      (by show 3 * s.waitingCount ≤ _; omega) (by omega) 0 1).symm
  · have turn' : s.nextDesk.turn = (s.nextDesk, false) := turn_of_not_deskGrants fun k => there ((deskGrants_turnAt ..).1 k)
    obtain ⟨l, grants⟩ := (someGrantable_iff s).1 grantable
    have last : DeskGrants s s.pointer.next.next := by
      rcases link_eq_or_next l s.pointer with rfl | rfl | rfl
      · exact absurd grants here
      · exact absurd grants there
      · exact grants
    rw [passTurns_of_refused turn', passTurns_of_refused turn', if_neg (by decide), if_neg (by decide)]
    exact (passTurns_of_deskGrants ((deskGrants_turnAt s _ 0 _).2 last) (fuel := 3 * s.claims.length)
      (by show 3 * s.waitingCount ≤ _; omega) (by omega) 1 2).symm

theorem pass_of_not_grantable {s : State} (h : PassOpen s) (unspent : s.served < s.weights.get s.pointer)
    (refused : ¬ SomeGrantable s) : s.pass = { s with served := 0 } := by
  have turn : ∀ l k, (s.turnAt l k).turn = (s.turnAt l k, false) := fun l k =>
    turn_of_not_deskGrants fun grants => refused ((someGrantable_iff s).2 ⟨_, (deskGrants_turnAt s l k _).1 grants⟩)
  have first : s.turn = (s, false) := turn s.pointer s.served
  have second : s.nextDesk.turn = (s.nextDesk, false) := turn s.pointer.next 0
  have third : s.nextDesk.nextDesk.turn = (s.nextDesk.nextDesk, false) := turn s.pointer.next.next 0
  rw [h.pass_eq unspent (waiting_le_passFuel _) (Nat.le_refl _), State.passFuel, passTurns_of_refused first,
    if_neg (by decide), passTurns_of_refused second, if_neg (by decide), passTurns_of_refused third, if_pos (by decide)]
  show s.turnAt s.pointer.next.next.next 0 = s.turnAt s.pointer 0
  rw [link_next_next_next]

end Sys2Proof.Machine
end

section
/-! PROOF. The SYNC speeds of a group (R88), and O26: the pass of the arbiter, its turns, and the grants of a claim and of a group. -/

namespace Sys2Proof.Machine

/-! ## The member whose travel takes longest (R88) -/

/-- How long the travel of a claim takes at its requested speed. -/
def travelTime (s : State) (c : ClaimRec) : ℚ := (leadGap s c : ℚ) / c.requestedSpeed.getD 0

/-- Claims with distinct numbers, each with a travel and a speed. -/
def Speeded (s : State) (cs : List ClaimRec) : Prop :=
  (cs.map ClaimRec.number).Nodup ∧ ∀ c ∈ cs, Travels s c ∧ 1 ≤ c.requestedSpeed.getD 0

theorem Speeded.sublist {s : State} {cs ds : List ClaimRec} (h : Speeded s ds) (sub : cs.Sublist ds) : Speeded s cs :=
  ⟨h.1.sublist (sub.map _), fun c mem => h.2 c (sub.subset mem)⟩

theorem takesLonger_iff {s : State} {k c : ClaimRec} (hk : 1 ≤ k.requestedSpeed.getD 0) (hc : 1 ≤ c.requestedSpeed.getD 0) :
    TakesLonger s k c ↔ travelTime s c < travelTime s k ∨ travelTime s c = travelTime s k ∧ k.number < c.number := by
  have kpos : (0 : ℚ) < (k.requestedSpeed.getD 0 : ℕ) := by exact_mod_cast hk
  have cpos : (0 : ℚ) < (c.requestedSpeed.getD 0 : ℕ) := by exact_mod_cast hc
  rw [travelTime, travelTime, div_lt_div_iff₀ cpos kpos, div_eq_div_iff cpos.ne' kpos.ne']
  unfold TakesLonger
  norm_cast

theorem TakesLonger.trans {s : State} {k d c : ClaimRec} (hk : 1 ≤ k.requestedSpeed.getD 0) (hd : 1 ≤ d.requestedSpeed.getD 0)
    (hc : 1 ≤ c.requestedSpeed.getD 0) (kd : TakesLonger s k d) (dc : TakesLonger s d c) : TakesLonger s k c := by
  rw [takesLonger_iff hk hc]
  rcases (takesLonger_iff hk hd).1 kd with less | ⟨equal, number⟩ <;> rcases (takesLonger_iff hd hc).1 dc with less' | ⟨equal', number'⟩
  · exact .inl (less'.trans less)
  · exact .inl (equal' ▸ less)
  · exact .inl (equal ▸ less')
  · exact .inr ⟨equal'.trans equal, number.trans number'⟩

theorem takesLonger_or {s : State} {k c : ClaimRec} (hk : 1 ≤ k.requestedSpeed.getD 0) (hc : 1 ≤ c.requestedSpeed.getD 0)
    (other : k.number ≠ c.number) : TakesLonger s k c ∨ TakesLonger s c k := by
  rw [takesLonger_iff hk hc, takesLonger_iff hc hk]
  rcases lt_trichotomy (travelTime s c) (travelTime s k) with less | equal | more
  · exact .inl (.inl less)
  · exact (Nat.lt_or_gt_of_ne other).imp (fun n => .inr ⟨equal, n⟩) fun n => .inr ⟨equal.symm, n⟩
  · exact .inr (.inl more)

theorem Travels.travelOf {s : State} {c : ClaimRec} (h : Travels s c) : s.travelOf c = leadGap s c :=
  let ⟨_, _, lead, _, _⟩ := h
  travelOf_eq_leadGap lead

theorem Travels.leadGap_pos {s : State} {c : ClaimRec} (h : Travels s c) : 0 < leadGap s c :=
  let ⟨_, _, _, _, far⟩ := h
  Nat.zero_lt_of_lt far

theorem slower_iff {s : State} {k c : ClaimRec} (hk : Travels s k) (hc : Travels s c) : s.slower k c = true ↔ TakesLonger s k c := by
  simp only [State.slower, TakesLonger, hk.travelOf, hc.travelOf, ClaimRec.speed, Bool.or_eq_true, Bool.and_eq_true,
    decide_eq_true_eq, eq_comm (a := leadGap s k * _)]

/-- The slower of the slowest so far and the next (R88). -/
def State.pickSlower (s : State) (k d : ClaimRec) : ClaimRec := if s.slower d k then d else k

theorem pickSlower_cases {s : State} {k d : ClaimRec} {ds : List ClaimRec} (h : Speeded s (k :: d :: ds)) :
    s.pickSlower k d = d ∧ TakesLonger s d k ∨ s.pickSlower k d = k ∧ TakesLonger s k d := by
  obtain ⟨numbers, speeds⟩ := h
  obtain ⟨⟨travelsK, speedK⟩, rest⟩ := List.forall_mem_cons.1 speeds
  obtain ⟨⟨travelsD, speedD⟩, -⟩ := List.forall_mem_cons.1 rest
  have other : k.number ≠ d.number := fun e => (List.nodup_cons.1 numbers).1 (e ▸ List.mem_cons_self ..)
  by_cases slower : s.slower d k = true
  · exact .inl ⟨if_pos slower, (slower_iff travelsD travelsK).1 slower⟩
  · exact .inr ⟨if_neg slower, (takesLonger_or speedK speedD other).resolve_right fun h => slower ((slower_iff travelsD travelsK).2 h)⟩

/-- The claim takes longest of a list: it is one of them, and takes longer than every other (R88). -/
def TakesLongest (s : State) (m : ClaimRec) (cs : List ClaimRec) : Prop := m ∈ cs ∧ ∀ c ∈ cs, c = m ∨ TakesLonger s m c

/-- A claim left out for one that takes longer does not change which claim takes longest. -/
theorem TakesLongest.cons {s : State} {m k d : ClaimRec} {cs : List ClaimRec} (h : TakesLongest s m (k :: cs))
    (longer : TakesLonger s k d) (speeds : ∀ c ∈ d :: k :: cs, 1 ≤ c.requestedSpeed.getD 0) : TakesLongest s m (d :: k :: cs) := by
  obtain ⟨mem, longest⟩ := h
  obtain ⟨speedD, speeds⟩ := List.forall_mem_cons.1 speeds
  refine ⟨List.mem_cons_of_mem _ mem, List.forall_mem_cons.2 ⟨.inr ?_, longest⟩⟩
  rcases longest k (List.mem_cons_self ..) with rfl | further
  · exact longer
  · exact further.trans (speeds m mem) (speeds k (List.mem_cons_self ..)) speedD longer

theorem TakesLongest.perm {s : State} {m : ClaimRec} {cs ds : List ClaimRec} (h : TakesLongest s m cs) (same : cs.Perm ds) :
    TakesLongest s m ds := ⟨same.mem_iff.1 h.1, fun c mem => h.2 c (same.mem_iff.2 mem)⟩

theorem foldl_pickSlower {s : State} {k : ClaimRec} {cs : List ClaimRec} (h : Speeded s (k :: cs)) :
    TakesLongest s (cs.foldl s.pickSlower k) (k :: cs) := by
  induction cs generalizing k with
  | nil => exact ⟨List.mem_cons_self .., fun c mem => .inl (List.mem_singleton.1 mem)⟩
  | cons d ds ih =>
    rw [List.foldl_cons]
    rcases pickSlower_cases h with ⟨pick, longer⟩ | ⟨pick, longer⟩ <;> rw [pick]
    · exact (ih (h.sublist (List.sublist_cons_self ..))).cons longer fun c mem => (h.2 c mem).2
    · have swap : (d :: k :: ds).Perm (k :: d :: ds) := List.Perm.swap k d ds
      have rest := ih (h.sublist ((List.sublist_cons_self d ds).cons_cons k))
      exact (rest.cons longer fun c mem => (h.2 c (swap.mem_iff.1 mem)).2).perm swap

theorem slowest_takesLongest {s : State} {cs : List ClaimRec} (nonempty : cs ≠ []) (h : Speeded s cs) :
    ∃ k, s.slowest cs = some k ∧ TakesLongest s k cs := by
  cases cs with
  | nil => exact absurd rfl nonempty
  | cons c cs => exact ⟨_, rfl, foldl_pickSlower h⟩

/-! ## The speeds of a group (R87, R88) -/

theorem groupSpeed_false (s : State) (cs : List ClaimRec) (c : ClaimRec) : s.groupSpeed false cs c = c.requestedSpeed.getD 0 := by
  unfold State.groupSpeed
  cases s.slowest cs <;> rfl

theorem groupSpeed_true {s : State} {cs : List ClaimRec} {k : ClaimRec} (slowest : s.slowest cs = some k) (c : ClaimRec) :
    s.groupSpeed true cs c = s.syncSpeed k c := by simp only [State.groupSpeed, slowest]

theorem groupSpeed_sync_settled (s : State) (cs : List ClaimRec) (nonempty : cs ≠ []) (numbers : (cs.map ClaimRec.number).Nodup)
    (travels : ∀ c ∈ cs, Travels s c) (speeds : ∀ c ∈ cs, 1 ≤ c.requestedSpeed.getD 0) :
    ∃ k ∈ cs, (∀ c ∈ cs, c.number ≠ k.number → TakesLonger s k c) ∧ ∀ c ∈ cs, ∃ q,
      s.groupSpeed true cs c = min (c.requestedSpeed.getD 0) q ∧
        k.requestedSpeed.getD 0 * leadGap s c ≤ leadGap s k * q ∧
        ∀ j, k.requestedSpeed.getD 0 * leadGap s c ≤ leadGap s k * j → q ≤ j := by
  obtain ⟨k, slowest, mem, longest⟩ := slowest_takesLongest nonempty ⟨numbers, fun c hc => ⟨travels c hc, speeds c hc⟩⟩
  refine ⟨k, mem, fun c hc other => (longest c hc).resolve_left fun e => other (e ▸ rfl), fun c hc => ?_⟩
  have gap := (travels k mem).leadGap_pos
  refine ⟨ceilDiv (k.requestedSpeed.getD 0 * leadGap s c) (leadGap s k), ?_, (ceilDiv_le_iff gap _).1 (Nat.le_refl _),
    fun j => (ceilDiv_le_iff gap j).2⟩
  rw [groupSpeed_true slowest, State.syncSpeed, (travels c hc).travelOf, (travels k mem).travelOf]
  rfl

/-! ## The statement -/

/-- The three ways on from a turn of a pass: spent, unspent with and without a grant, and the end of the pass. -/
theorem passTurn_settled (s : State) (run : s.stop.state = .run) (holdOff : s.stop.holdAll = false) (entries : ∃ l, s.queueOf l ≠ [])
    (weights : ∀ l, 1 ≤ s.weights.get l) :
    (s.weights.get s.pointer ≤ s.served → s.pass = (s.turnAt s.pointer.next 0).pass) ∧
    (s.served < s.weights.get s.pointer →
      (∀ t, NumbersDistinct s → s.turn = (t, true) → s.pass =
        if t.queueOf .dl0 = [] ∧ t.queueOf .dl1 = [] ∧ t.queueOf .dl2 = [] then t else (t.turnAt s.pointer.next 0).pass) ∧
      (s.turn.2 = false → SomeGrantable s → s.pass = (s.turnAt s.pointer.next 0).pass) ∧
      (¬ SomeGrantable s → s.pass = { s with served := 0 })) := by
  have opened : PassOpen s := by
    refine ⟨(grantsAllowed_iff s).2 ⟨run, holdOff⟩, Bool.eq_false_iff.2 fun empty => ?_⟩
    obtain ⟨l, present⟩ := entries
    exact present ((queuesEmpty_iff_forall s).1 empty l)
  exact ⟨pass_of_spent opened weights, fun unspent => ⟨fun _ _ => pass_of_granted opened weights unspent,
    pass_of_refused opened weights unspent, pass_of_not_grantable opened unspent⟩⟩

/-- Settles O26: a turn that grants leaves fewer claims waiting, so that a pass has turns enough; a group's plans are those of its
members, with spans apart. -/
theorem arbiterAndGroupGrants : Obligations.ArbiterAndGroupGrants :=
  ⟨queueOf_settled, fun _ => pass_of_idle, passTurn_settled, fun _ => rfl,
    fun _ _ es g _ => ⟨rfl, examineAll_of_refused es g, fun _ => examineAll_of_granted es g⟩,
    examine_claim_iff, claimGranted_settled,
    fun s g x cs found members => ⟨groupGrantable_settled s g x cs found members, fun _ => grantGroup_settled found members⟩,
    groupSpeed_false, groupSpeed_sync_settled⟩

end Sys2Proof.Machine
end

section
/-! PROOF. OPEN GROUP, CLOSE GROUP and CANCEL GROUP (O41): the group record written, a group through a pass, a group's members removed, and each request taken. -/

namespace Sys2Proof.Machine

/-! ## One group record -/

theorem group?_putGroup_self (s : State) {g : Nat} (range : 1 ≤ g ∧ g ≤ 24) (x : Option GroupRec) : (s.putGroup g x).group? g = x := by
  rw [group?_putGroup, if_pos ⟨rfl, range⟩]

theorem group?_putGroup_other (s : State) {g k : Nat} (other : k ≠ g) (x : Option GroupRec) :
    (s.putGroup g x).group? k = s.group? k := by
  rw [group?_putGroup, if_neg fun h => other h.1]

/-- A group that has left FORMING is out of it after a pass, which grants it or leaves it as it was (R87). -/
theorem pass_group?_of_not_forming {s : State} {g : Nat} {x : GroupRec} (found : s.group? g = some x) (closed : x.state ≠ .forming) :
    ∃ y, s.pass.group? g = some y ∧ y.state ≠ .forming ∧ y.members = x.members ∧ y.expected = x.expected := by
  rcases (pass_granting s).groups g with same | ⟨z, before, after⟩
  · exact ⟨x, same.trans found, closed, rfl, rfl⟩
  · obtain rfl : x = z := Option.some.inj (found.symm.trans before)
    exact ⟨_, after, nofun, rfl, rfl⟩

/-! ## The members of a group removed (R43) -/

theorem removeWaiting_claims (s : State) (c : ClaimRec) :
    (s.removeWaiting c).claims = s.claims.filter fun d => decide (d.number ≠ c.number) := by
  unfold State.removeWaiting
  rw [setClaimField_frame]
  rfl

/-- The claims left when one number's claim is removed, whether or not the number is in use. -/
theorem removeMembers_singleton_claims (s : State) (n : Nat) :
    (s.removeMembers [n]).claims = s.claims.filter fun d => decide (d.number ≠ n) := by
  unfold State.removeMembers
  rw [List.foldl_cons, List.foldl_nil]
  split
  · rename_i c found
    rw [removeWaiting_claims, (mem_of_claim? found).2]
  · rename_i free
    exact (List.filter_eq_self.2 fun d mem => by simpa using List.find?_eq_none.1 free d mem).symm

theorem removeMembers_cons (s : State) (n : Nat) (ns : List Nat) :
    s.removeMembers (n :: ns) = (s.removeMembers [n]).removeMembers ns := rfl

theorem removeMembers_claims (s : State) (ns : List Nat) :
    (s.removeMembers ns).claims = s.claims.filter fun d => decide (d.number ∉ ns) := by
  induction ns generalizing s with
  | nil => simp [State.removeMembers]
  | cons n ns ih =>
    rw [removeMembers_cons, ih, removeMembers_singleton_claims, List.filter_filter]
    refine List.filter_congr fun d _ => ?_
    simp [Bool.and_comm]

theorem dissolveGroup_claims (s : State) (g : Nat) (x : GroupRec) :
    (s.dissolveGroup g x).claims = s.claims.filter fun d => decide (d.number ∉ x.members) := removeMembers_claims s x.members

theorem dissolveGroup_claim?_member (s : State) (g : Nat) {x : GroupRec} {n : Nat} (member : n ∈ x.members) :
    (s.dissolveGroup g x).claim? n = none := by
  refine List.find?_eq_none.2 fun d mem => ?_
  rw [dissolveGroup_claims, List.mem_filter, decide_eq_true_eq] at mem
  rw [decide_eq_true_eq]
  rintro rfl
  exact mem.2 member

theorem dissolveGroup_group?_self (s : State) {g : Nat} (range : 1 ≤ g ∧ g ≤ 24) (x : GroupRec) : (s.dissolveGroup g x).group? g = none :=
  group?_putGroup_self _ range none

theorem dissolveGroup_group?_other (s : State) {g k : Nat} (other : k ≠ g) (x : GroupRec) :
    (s.dissolveGroup g x).group? k = s.group? k := by
  unfold State.dissolveGroup
  rw [group?_putGroup_other _ other, removeMembers_frame]
  rfl

/-! ## The owner's step -/

theorem serveOpenGroup_opened {l : Link} {q : OpenGroupReq} {s : State} {g : Nat} (free : Tab.firstFree s.groups = some g) :
    serveOpenGroup l q s = (s.putGroup g (some (groupRecord q l)), Reply.done [byteOf g]) := by
  unfold serveOpenGroup
  rw [free]
  rfl

theorem onOwnGroup_of_owner {s : State} {l : Link} {g : Nat} {x : GroupRec} (found : s.group? g = some x) (own : x.owner = l)
    (k : GroupRec → State × Reply) : s.onOwnGroup l g k = k x := by
  unfold State.onOwnGroup State.onGroup
  rw [found]
  exact if_pos own

theorem onOwnGroup_of_other {s : State} {l : Link} {g : Nat} {x : GroupRec} (found : s.group? g = some x) (other : x.owner ≠ l)
    (k : GroupRec → State × Reply) : s.onOwnGroup l g k = (s, Reply.of .notOwner) := by
  unfold State.onOwnGroup State.onGroup
  rw [found]
  exact if_neg other

/-- The record that CLOSE GROUP makes of a FORMING group (R82). -/
def GroupRec.closed (x : GroupRec) : GroupRec := GroupRec.enterReady { x with expected := x.members.length }

theorem serveCloseGroup_closed {s : State} {l : Link} {g : Nat} {x : GroupRec} (found : s.group? g = some x) (own : x.owner = l)
    (forming : x.state = .forming) (two : 2 ≤ x.members.length) :
    serveCloseGroup l g s = ((s.putGroup g (some x.closed)).pass, Reply.of .done) := by
  unfold serveCloseGroup
  rw [onOwnGroup_of_owner found own]
  exact if_neg (not_or.2 ⟨not_not.2 forming, Nat.not_lt.2 two⟩)

theorem serveCloseGroup_wrongState {s : State} {l : Link} {g : Nat} {x : GroupRec} (found : s.group? g = some x) (own : x.owner = l)
    (wrong : x.state ≠ .forming ∨ x.members.length < 2) : serveCloseGroup l g s = (s, Reply.of .wrongState) := by
  unfold serveCloseGroup
  rw [onOwnGroup_of_owner found own]
  exact if_pos wrong

theorem serveCancelGroup_cancelled {s : State} {l : Link} {g : Nat} {x : GroupRec} (found : s.group? g = some x) (own : x.owner = l)
    (waits : x.state ≠ .granted) : serveCancelGroup l g s = (s.dissolveGroup g x, Reply.of .done) := by
  unfold serveCancelGroup
  rw [onOwnGroup_of_owner found own]
  exact if_neg waits

theorem serveCancelGroup_wrongState {s : State} {l : Link} {g : Nat} {x : GroupRec} (found : s.group? g = some x) (own : x.owner = l)
    (granted : x.state = .granted) : serveCancelGroup l g s = (s, Reply.of .wrongState) := by
  unfold serveCancelGroup
  rw [onOwnGroup_of_owner found own]
  exact if_pos granted

/-! ## The requests taken -/

theorem openGroup_settled (l : Link) (tag : Word16) (q : OpenGroupReq) (g : Nat) (s : State) (desk : FullDesk s l)
    (form : formOk (.openGroup q) = true) (lo : 1 ≤ g) (hi : g ≤ 24) (free : s.group? g = none)
    (lowest : ∀ k, 1 ≤ k → k < g → (s.group? k).isSome = true) :
    ∃ t, exec (.openGroup l tag q) s = .next t ∧ t = { s with groups := t.groups, links := t.links } ∧
      t.group? g = some { owner := l, cls := q.cls, sync := q.sync, expected := q.expected, members := []
                          waitLimit := q.waitLimit, state := .forming, timer := none } ∧
      (∀ k, k ≠ g → t.group? k = s.group? k) ∧ Answered s t l 29 tag (Reply.done [byteOf g]) := by
  have opened := serveOpenGroup_opened (l := l) (q := q) ((Tab.firstFree_eq_some s.groups g).2 ⟨lo, hi, free, lowest⟩)
  exact ⟨_, exec_taken (r := .openGroup q) desk rfl form opened, rfl, group?_putGroup_self s ⟨lo, hi⟩ _,
    fun k other => group?_putGroup_other s other _, answered_queueReply l 29 tag _ rfl⟩

theorem closeGroup_settled (l : Link) (tag : Word16) (g : Nat) (x : GroupRec) (s : State) (desk : FullDesk s l) (lo : 1 ≤ g) (hi : g ≤ 24)
    (found : s.group? g = some x) (own : x.owner = l) (forming : x.state = .forming) (two : 2 ≤ x.members.length) :
    ∃ t y, exec (.closeGroup l tag g) s = .next t ∧ t.group? g = some y ∧ y.state ≠ .forming ∧ y.members = x.members ∧
      y.expected = x.members.length ∧
      t = { s with claims := t.claims, sets := t.sets, groups := t.groups, pointer := t.pointer, served := t.served
                   links := t.links } ∧
      Answered s t l 30 tag (Reply.of .done) := by
  have form : formOk (.closeGroup g) = true := (between_iff 1 24 g).2 ⟨lo, hi⟩
  have ready : (s.putGroup g (some x.closed)).group? g = some x.closed := group?_putGroup_self s ⟨lo, hi⟩ _
  have frame : PassFrame (s.putGroup g (some x.closed)) (s.putGroup g (some x.closed)).pass := pass_frame _
  obtain ⟨y, after, left, members, expected⟩ := pass_group?_of_not_forming ready nofun
  refine ⟨_, y, exec_taken (r := .closeGroup g) desk rfl form (serveCloseGroup_closed found own forming two), after, left, members,
    expected, ?_, answered_queueReply l 30 tag _ ?_⟩
  · rw [queueReply_frame, frame]
    rfl
  · rw [frame]
    rfl

theorem cancelGroup_settled (l : Link) (tag : Word16) (g : Nat) (x : GroupRec) (s : State) (desk : FullDesk s l) (lo : 1 ≤ g) (hi : g ≤ 24)
    (found : s.group? g = some x) (own : x.owner = l) (waits : x.state ≠ .granted) :
    ∃ t, exec (.cancelGroup l tag g) s = .next t ∧ t.group? g = none ∧ (∀ k, k ≠ g → t.group? k = s.group? k) ∧
      (∀ n ∈ x.members, t.claim? n = none) ∧ (∀ c ∈ s.claims, c.number ∉ x.members → c ∈ t.claims) ∧
      t = { s with claims := t.claims, sets := t.sets, bonds := t.bonds, groups := t.groups, links := t.links } ∧
      Answered s t l 31 tag (Reply.of .done) := by
  have form : formOk (.cancelGroup g) = true := (between_iff 1 24 g).2 ⟨lo, hi⟩
  refine ⟨_, exec_taken (r := .cancelGroup g) desk rfl form (serveCancelGroup_cancelled found own waits),
    dissolveGroup_group?_self s ⟨lo, hi⟩ x, fun k other => dissolveGroup_group?_other s other x,
    fun n member => dissolveGroup_claim?_member s g member, fun c mem other => ?_, ?_, answered_queueReply l 31 tag _ ?_⟩
  · show c ∈ (s.dissolveGroup g x).claims
    rw [dissolveGroup_claims]
    exact List.mem_filter.2 ⟨mem, decide_eq_true other⟩
  · rw [queueReply_frame, dissolveGroup_frame]
  · rw [dissolveGroup_frame]

/-- A request on a group of another owner, or in the wrong state, is answered and changes no record (R79, R82, R83). -/
theorem groupRequests_refused (l : Link) (tag : Word16) (g : Nat) (x : GroupRec) (s : State) (desk : FullDesk s l) (lo : 1 ≤ g)
    (hi : g ≤ 24) (found : s.group? g = some x) :
    (x.owner ≠ l →
      (∃ t, exec (.closeGroup l tag g) s = .next t ∧ AnswerOnly s t l 30 tag (Reply.of .notOwner)) ∧
      ∃ t, exec (.cancelGroup l tag g) s = .next t ∧ AnswerOnly s t l 31 tag (Reply.of .notOwner)) ∧
    (x.owner = l → x.state ≠ .forming ∨ x.members.length < 2 →
      ∃ t, exec (.closeGroup l tag g) s = .next t ∧ AnswerOnly s t l 30 tag (Reply.of .wrongState)) ∧
    (x.owner = l → x.state = .granted →
      ∃ t, exec (.cancelGroup l tag g) s = .next t ∧ AnswerOnly s t l 31 tag (Reply.of .wrongState)) := by
  have form : between 1 24 g = true := (between_iff 1 24 g).2 ⟨lo, hi⟩
  have close {y : Reply} (served : serveCloseGroup l g s = (s, y)) :
      ∃ t, exec (.closeGroup l tag g) s = .next t ∧ AnswerOnly s t l 30 tag y :=
    exec_answerOnly (r := .closeGroup g) desk rfl form served
  have cancel {y : Reply} (served : serveCancelGroup l g s = (s, y)) :
      ∃ t, exec (.cancelGroup l tag g) s = .next t ∧ AnswerOnly s t l 31 tag y :=
    exec_answerOnly (r := .cancelGroup g) desk rfl form served
  exact ⟨fun other => ⟨close (onOwnGroup_of_other found other _), cancel (onOwnGroup_of_other found other _)⟩,
    fun own wrong => close (serveCloseGroup_wrongState found own wrong),
    fun own granted => cancel (serveCancelGroup_wrongState found own granted)⟩

/-- Settles O41: the record written, the group through the pass that follows its closing, and its members' claims removed. -/
theorem groupsOpenedClosedCancelled : Obligations.GroupsOpenedClosedCancelled :=
  ⟨openGroup_settled, closeGroup_settled, cancelGroup_settled, groupRequests_refused⟩

end Sys2Proof.Machine
end

section
/-! PROOF. POLL_BUILD (O47): the content of a grant frame, the next station of a new round, and the poll that is built. -/

namespace Sys2Proof.Machine

/-! ## The controller written -/

theorem bus_putBus_self (s : State) (f : Segment) (b : Bus) : (s.putBus f b).bus f = b := PerSegment.get_put_self _ _ _

theorem bus_putBus_other (s : State) {f g : Segment} (other : g ≠ f) (b : Bus) : (s.putBus f b).bus g = s.bus g := by
  rw [bus_putBus, if_neg other]

/-- The record at a station's address, in the table, after a write to it. -/
theorem station_putStation_self (b : Bus) {a : Nat} (range : 1 ≤ a ∧ a ≤ 64) (x : Station) : (b.putStation a x).station a = x :=
  (station_putStation ..).trans (if_pos ⟨rfl, range⟩)

theorem station_putStation_other (b : Bus) {a k : Nat} (other : k ≠ a) (x : Station) : (b.putStation a x).station k = b.station k :=
  (station_putStation ..).trans (if_neg fun h => other h.1)

/-! ## The content of a grant frame (R102) -/

theorem claimContent_none {s : State} {n : Nat} (free : s.claimOf (s.moverOf n) = none) :
    s.claimContent n = { command := .stay, target := 0, cap := 0 } := by
  unfold State.claimContent
  rw [free]
  rfl

theorem claimContent_some {s : State} {n : Nat} {c : ClaimRec} (claimed : s.claimOf (s.moverOf n) = some c) :
    s.claimContent n =
      if c.state = .granted ∨ c.state = .moving then
        { command := .go, target := positionIn c.memberTargets n, cap := c.grantedSpeed.getD 0 }
      else if c.state = .held ∨ c.state = .retiring ∨ c.state = .faulted then { command := .stop, target := 0, cap := 0 }
      else { command := .stay, target := 0, cap := 0 } := by
  unfold State.claimContent
  rw [claimed]
  simp only [running_iff]
  rfl

theorem contentFor_eq (s : State) (n : Nat) : s.contentFor n =
    if (s.setRec n).state = .dark ∧ (s.setRec n).identityVerified = false then { command := .identify, target := 0, cap := 0 }
    else if s.stop.state ≠ .run then { command := .halt, target := 0, cap := 0 }
    else s.claimContent n := by simp [State.contentFor, Content.still]

/-! ## The next station of a round (R100, R101) -/

/-- The station to poll is the first left of the active part, or else of the idle part. -/
theorem nextTurn_address (b : Bus) (r : Round) : (nextTurn b r).map Turn.address =
    (r.activeLeft.dropWhile (passedOver b r)).head?.or ((idleRest b r).dropWhile (passedOver b r)).head? := by
  unfold nextTurn
  cases r.activeLeft.dropWhile (passedOver b r) with
  | cons a as => rfl
  | nil =>
    dsimp only [idleTurn]
    cases (idleRest b r).dropWhile (passedOver b r) <;> rfl

/-- The idle part begins above the idle pointer, or else with the first idle station (R101). -/
theorem idlePart_head? {k : Nat} (slice : 1 ≤ k) (p : Nat) (idle : List Nat) :
    (idlePart p k idle).head? = (idle.find? fun a => decide (p < a)).or idle.head? := by
  unfold idlePart
  rw [List.head?_take, if_neg (by omega), List.head?_append, List.head?_filter, List.head?_filter]
  cases above : idle.find? fun a => decide (p < a) with
  | some a => rfl
  | none =>
    rw [List.find?_eq_none] at above
    cases idle with
    | nil => rfl
    | cons a as =>
      have below : a ≤ p := by simpa using above a (List.mem_cons_self ..)
      simp [below]

theorem mem_of_mem_idlePart {p k a : Nat} {idle : List Nat} (mem : a ∈ idlePart p k idle) : a ∈ idle := by
  have mem := List.mem_of_mem_take mem
  rw [List.mem_append, List.mem_filter, List.mem_filter] at mem
  exact mem.elim And.left And.left

/-- While no station has left, no configured station is passed over. -/
theorem dropWhile_passedOver {b : Bus} {r : Round} (noneGone : r.gone = []) {as : List Nat} (configured : ∀ a ∈ as, a ∈ b.configured) :
    as.dropWhile (passedOver b r) = as := by
  cases as with
  | nil => rfl
  | cons a as =>
    have set : (b.station a).set.isSome = true := (List.mem_filter.1 (configured a (List.mem_cons_self ..))).2
    have stays : passedOver b r a = false := by
      rw [Option.isSome_iff_exists] at set
      obtain ⟨n, set⟩ := set
      simp [passedOver, set, noneGone]
    exact List.dropWhile_cons_of_neg (by rw [stays]; exact Bool.false_ne_true)

/-- The station a new round begins with, given its active and its idle list. -/
def firstAddress (pointer : Nat) (active idle : List Nat) : Option Nat :=
  active.head?.or ((idle.find? fun a => decide (pointer < a)).or idle.head?)

theorem mem_of_firstAddress {pointer a : Nat} {active idle : List Nat} (first : firstAddress pointer active idle = some a) :
    a ∈ active ∨ a ∈ idle := by
  rcases Option.or_eq_some_iff.1 first with h | ⟨-, h⟩
  · exact .inl (List.mem_of_head? h)
  · rcases Option.or_eq_some_iff.1 h with h | ⟨-, h⟩
    · exact .inr (List.mem_of_find?_eq_some h)
    · exact .inr (List.mem_of_head? h)

theorem firstAddress_isSome {pointer a : Nat} {active idle : List Nat} (mem : a ∈ active ∨ a ∈ idle) :
    (firstAddress pointer active idle).isSome = true := by
  unfold firstAddress
  have nonempty : active ≠ [] ∨ idle ≠ [] := mem.imp List.ne_nil_of_mem List.ne_nil_of_mem
  rcases nonempty with h | h
  · simp [List.head?_eq_some_head h]
  · simp [List.head?_eq_some_head h]

/-- With no round in progress the next station is the first of the lists formed from the records (R100, R101). -/
theorem nextStation_newRound {s : State} {b : Bus} (noRound : b.round = none) (slice : 1 ≤ b.idleSlice) :
    (s.nextStation b).map Turn.address = firstAddress b.idlePointer (b.configured.filter (s.stationActive b))
      (b.configured.filter fun a => !s.stationActive b a) := by
  have turn : s.nextStation b = nextTurn b (s.formRound b) := by
    unfold State.nextStation
    rw [noRound]
  rw [turn, nextTurn_address, dropWhile_passedOver rfl, dropWhile_passedOver rfl]
  · exact congrArg _ (idlePart_head? slice _ _)
  · exact fun a mem => List.mem_of_mem_filter (mem_of_mem_idlePart mem)
  · exact fun a mem => List.mem_of_mem_filter mem

/-! ## The build (R96, R103) -/

/-- A configured station has an address from 1 to 64. -/
theorem station_range {b : Bus} {a n : Nat} (set : (b.station a).set = some n) : 1 ≤ a ∧ a ≤ 64 := by
  by_contra out
  rw [station_out b a out] at set
  cases set

theorem nextToggle_eq (x : Station) (k : Content) :
    x.nextToggle k = if x.lastContent = none ∨ x.lastContent = some k then x.toggle else !x.toggle := by
  unfold Station.nextToggle
  cases x.lastContent with
  | none => rfl
  | some c => by_cases same : c = k <;> simp [same]

/-- The poll that is built for turn `x`, set `n` and content `k` (R96, R103). -/
def Bus.builtPoll (b : Bus) (x : Turn) (n : Nat) (k : Content) : Poll :=
  let g := (b.station x.address).nextToggle k
  { address := x.address, set := n, content := k, toggle := g, idlePart := x.idlePart, orphaned := false
    sent := frameChars x.address k g }

@[simp] theorem build_poll (b : Bus) (x : Turn) (n : Nat) (k : Content) : (b.build x n k).poll = some (b.builtPoll x n k) := rfl

/-- A build polls the next station with the content of its set. -/
theorem pollBuild_built {s : State} {f : Segment} {x : Turn} {n : Nat} (polling : (s.bus f).state = .polling)
    (free : (s.bus f).poll = none) (turn : s.nextStation (s.bus f) = some x) (set : ((s.bus f).station x.address).set = some n) :
    s.pollBuild f = s.putBus f ((s.bus f).build x n (s.contentFor n)) := by
  unfold State.pollBuild
  simp only [polling, free, and_self, if_true, turn, set]

theorem pollBuild_of_busy {s : State} {f : Segment} (busy : (s.bus f).state ≠ .polling ∨ (s.bus f).poll ≠ none) :
    s.pollBuild f = s :=
  if_neg (not_and_or.2 busy)

theorem pollBuild_first (f : Segment) (active idle : List Nat) (s : State) (polling : (s.bus f).state = .polling)
    (free : (s.bus f).poll = none) (noRound : (s.bus f).round = none) (configured : (s.bus f).configured ≠ [])
    (slice : 1 ≤ (s.bus f).idleSlice) (isActive : active = (s.bus f).configured.filter (s.stationActive (s.bus f)))
    (isIdle : idle = (s.bus f).configured.filter fun a => !s.stationActive (s.bus f) a) :
    ∃ t p, exec (.pollBuild f) s = .next t ∧ (t.bus f).poll = some p ∧
      p.address = (firstAddress (s.bus f).idlePointer active idle).getD 0 := by
  have listed (a : Nat) : a ∈ active ∨ a ∈ idle ↔ a ∈ (s.bus f).configured := by
    rw [isActive, isIdle, List.mem_filter, List.mem_filter]
    cases s.stationActive (s.bus f) a <;> simp
  obtain ⟨c, member⟩ := List.exists_mem_of_ne_nil _ configured
  obtain ⟨a, first⟩ := Option.isSome_iff_exists.1 (firstAddress_isSome (pointer := (s.bus f).idlePointer) ((listed c).2 member))
  have next := nextStation_newRound (s := s) noRound slice
  rw [← isActive, ← isIdle, first, Option.map_eq_some_iff] at next
  obtain ⟨x, turn, rfl⟩ := next
  have set := (List.mem_filter.1 ((listed x.address).1 (mem_of_firstAddress first))).2
  obtain ⟨n, set⟩ := Option.isSome_iff_exists.1 set
  refine ⟨_, (s.bus f).builtPoll x n (s.contentFor n), congrArg Host.Outcome.next (pollBuild_built polling free turn set),
    congrArg Bus.poll (bus_putBus_self ..), ?_⟩
  rw [first]
  rfl

/-- Settles O47: the content line by line, the first station of a new round, the poll built, and a build that does nothing. -/
theorem pollBuilt : Obligations.PollBuilt := by
  refine ⟨fun s n => ?_, pollBuild_first, fun f x n s polling free turn set => ?_,
    fun f s busy => congrArg Host.Outcome.next (pollBuild_of_busy busy)⟩
  · rw [contentFor_eq]
    cases claimed : s.claimOf (s.moverOf n) with
    | none => rw [claimContent_none claimed]
    | some c => rw [claimContent_some claimed]
  · have built := bus_putBus_self s f ((s.bus f).build x n (s.contentFor n))
    refine ⟨_, (s.bus f).builtPoll x n (s.contentFor n), congrArg Host.Outcome.next (pollBuild_built polling free turn set), rfl,
      fun g other => bus_putBus_other s other _, ?_, rfl, rfl, rfl, rfl, nextToggle_eq _ _, ?_, fun a other => ?_⟩
    · rw [built]
      rfl
    · rw [built]
      exact station_putStation_self _ (station_range set) _
    · rw [built]
      exact station_putStation_other _ other _

end Sys2Proof.Machine
end

section
/-! PROOF. The judging of polls: a valid report and a discarded poll (O49), a miss and the STALE finding (O48). -/

namespace Sys2Proof.Machine

/-! ## The poll that an event ends (R97, R98) -/

theorem bus_updBus_self (s : State) (f : Segment) (g : Bus → Bus) : (s.updBus f g).bus f = g (s.bus f) := bus_putBus_self s f _

theorem bus_updBus_other (s : State) {f g : Segment} (other : g ≠ f) (h : Bus → Bus) : (s.updBus f h).bus g = s.bus g :=
  bus_putBus_other s other _

theorem onPoll_orphaned {s : State} {f : Segment} {p : Poll} (polling : (s.bus f).state = .polling) (poll : (s.bus f).poll = some p)
    (orphaned : p.orphaned = true) (g : Poll → State) : s.onPoll f g = s.updBus f fun b => b.endPoll p := by
  unfold State.onPoll
  simp only [polling, poll, orphaned, if_true]

theorem onPoll_judged {s : State} {f : Segment} {p : Poll} (polling : (s.bus f).state = .polling) (poll : (s.bus f).poll = some p)
    (configured : p.orphaned = false) (g : Poll → State) : s.onPoll f g = g p := by
  unfold State.onPoll
  simp only [polling, poll, configured, Bool.false_eq_true, if_false]

/-- The events that end a poll on a segment (R96, R97). -/
def EndsPoll (f : Segment) (i : Instr) : Prop :=
  i = .responseWindowExpiry f ∨ i = .reportGapExpiry f ∨ (∃ w, i = .reportUnreadable f w) ∨ ∃ r, i = .reportComplete f r

/-- Whatever ends a poll whose station has stopped being configured discards it (R98). -/
theorem exec_orphaned {f : Segment} {i : Instr} {p : Poll} {s : State} (ends : EndsPoll f i) (polling : (s.bus f).state = .polling)
    (poll : (s.bus f).poll = some p) (orphaned : p.orphaned = true) :
    exec i s = .next (s.updBus f fun b => b.endPoll p) := by
  have discards := onPoll_orphaned polling poll orphaned
  obtain rfl | rfl | ⟨w, rfl⟩ | ⟨r, rfl⟩ := ends <;> exact congrArg Host.Outcome.next (discards _)

/-! ## A valid report (R104 to R107) -/

theorem exec_valid {f : Segment} {p : Poll} {r : WireReport} {s : State} (polling : (s.bus f).state = .polling)
    (poll : (s.bus f).poll = some p) (configured : p.orphaned = false) (valid : reportMiss p r = none) :
    exec (.reportComplete f r) s = .next (s.updBus f fun b => b.accept p (s.isLive p.set) r) := by
  refine congrArg Host.Outcome.next ((onPoll_judged polling poll configured _).trans ?_)
  rw [valid]

theorem rawOf_eq (st : Byte) : rawOf st = if statusOf? st = none then some st else none := by simp [rawOf]

/-- The controller after a valid ordinary report of content `y` of poll `p`, before the report is handed on (R104, R105). -/
def Bus.heard (b : Bus) (p : Poll) (y : Report) (raw : Option Byte) : Bus :=
  { b.endPoll p with
    stations := Tab.put b.stations p.address (b.station p.address).answered
    outcomes := b.outcomes ++ [{ set := p.set, cls := y.status.outcome, raw := raw }] }

/-- An ordinary report of a live claim's set goes to the Travel Monitor, and of any other set to the Set Registry (R107). -/
theorem accept_ordinary (b : Bus) (p : Poll) (live : Bool) (a st c : Byte) (e : Bool) (g : BitVec 3) (pos vel load : Word16) :
    b.accept p live (.ordinary a e g st pos vel load c) =
      if live then
        { b.heard p (reportOf st pos vel load) (rawOf st) with
          tmOutcomes := b.tmOutcomes ++ [p.travel (some (reportOf st pos vel load)) e] }
      else
        { b.heard p (reportOf st pos vel load) (rawOf st) with
          setReports := b.setReports ++ [{ set := p.set, report := reportOf st pos vel load }] } := by
  cases live <;> rfl

/-- Settles O49: the controller after an ordinary and after an IDENT report, and a poll discarded. -/
theorem reportJudged : Obligations.ReportJudged := by
  refine ⟨fun f p a st c e g pos vel load y w s polling poll configured valid content written => ?_,
    fun f p a k c e g serial s polling poll configured valid => ⟨_, exec_valid polling poll configured valid, rfl, rfl⟩,
    fun f i p s ends polling poll orphaned => ⟨_, exec_orphaned ends polling poll orphaned, rfl, rfl⟩⟩
  subst content written
  rw [← rawOf_eq]
  exact ⟨_, exec_valid polling poll configured valid, rfl, congrArg (s.buses.put f) (accept_ordinary ..)⟩

/-! ## The kinds of miss (R97) -/

theorem reportMiss_eq (p : Poll) (r : WireReport) : reportMiss p r =
    if crc8 (reportData r) ≠ reportCheck r then some .badCheck
    else if (reportAddress r).toNat ≠ p.address then some .wrongAddress
    else if formExpected p.content.command r = false then some .wrongForm else none := by simp [reportMiss]

/-- Event `i` ends poll `p` of segment `f` in a miss of kind `k`. -/
def Misses (f : Segment) (p : Poll) (i : Instr) (k : MissKind) : Prop :=
  i = .responseWindowExpiry f ∧ k = .noAnswer ∨ i = .reportGapExpiry f ∧ k = .incomplete ∨
    i = .reportUnreadable f .badCharacter ∧ k = .badCharacter ∨ i = .reportUnreadable f .wrongForm ∧ k = .wrongForm ∨
    ∃ r, i = .reportComplete f r ∧ reportMiss p r = some k

theorem exec_missed {f : Segment} {i : Instr} {k : MissKind} {p : Poll} {s : State} (misses : Misses f p i k)
    (polling : (s.bus f).state = .polling) (poll : (s.bus f).poll = some p) (configured : p.orphaned = false) :
    exec i s = .next (s.judgeMiss f p k) := by
  have judged := onPoll_judged polling poll configured
  obtain ⟨rfl, rfl⟩ | ⟨rfl, rfl⟩ | ⟨rfl, rfl⟩ | ⟨rfl, rfl⟩ | ⟨r, rfl, kind⟩ := misses
  case inr.inr.inr.inr =>
    refine congrArg Host.Outcome.next ((judged _).trans ?_)
    rw [kind]
  all_goals exact congrArg Host.Outcome.next (judged _)

/-! ## The miss at its controller (R97, R108) -/

/-- The controller after a miss of kind `k` of poll `p`, whose set's mover has a live claim where `live` holds. -/
def Bus.missed (b : Bus) (p : Poll) (k : MissKind) (live : Bool) : Bus :=
  ((b.endPoll p).putStation p.address ((b.station p.address).miss k)).handMiss p k live
    (p.staleNotices (b.station p.address).fresh live (decide ((b.station p.address).missCount + 1 = Config.staleMisses)))

theorem third_iff (count : Nat) : count + 1 = Config.staleMisses ↔ count = 2 := by
  unfold Config.staleMisses
  omega

/-- A miss judged: the controller's records, and at the third miss the STALE finding (R109). -/
theorem judgeMiss_eq (s : State) (f : Segment) (p : Poll) (k : MissKind) : s.judgeMiss f p k =
    if ((s.bus f).station p.address).missCount = 2
      then (s.updBus f fun b => b.missed p k (s.isLive p.set)).staleFinding p.set
      else s.updBus f fun b => b.missed p k (s.isLive p.set) := by
  rw [← if_congr (decide_eq_true_iff.trans (third_iff _)) rfl rfl]
  rfl

theorem missed_station (b : Bus) (p : Poll) (k : MissKind) (live : Bool) (a : Nat) :
    (b.missed p k live).station a = ((b.endPoll p).putStation p.address ((b.station p.address).miss k)).station a := rfl

theorem station_miss_eq (x : Station) (k : MissKind) : x.miss k =
    { x with missCount := min 3 (x.missCount + 1), lastOutcome := some (.miss k), fresh := if x.missCount = 2 then false else x.fresh } := by
  simp only [Station.miss, third_iff]

theorem staleNotices_eq (p : Poll) (held live : Bool) (count : Nat) :
    p.staleNotices held live (decide (count + 1 = Config.staleMisses)) =
      if count = 2 ∧ live = true then [{ set := p.set, address := p.address, held := held }] else [] := by
  simp [Poll.staleNotices, third_iff, and_comm]

/-! ## The STALE finding of a live claim (R42, R109) -/

/-- Some claim of the table has number `n`, and every one is FAULTED with cause `k`. -/
structure FaultedAs (t : State) (n : Nat) (k : FaultCause) : Prop where
  found : ∃ c ∈ t.claims, c.number = n
  faulted : ∀ c ∈ t.claims, c.number = n → c.state = .faulted ∧ c.cause = some k

theorem FaultedAs.claim? {t : State} {n : Nat} {k : FaultCause} (h : FaultedAs t n k) :
    ∃ d, t.claim? n = some d ∧ d.state = .faulted ∧ d.cause = some k := by
  obtain ⟨c, mem, number⟩ := h.found
  have some : (t.claim? n).isSome = true := List.find?_isSome.2 ⟨c, mem, decide_eq_true number⟩
  obtain ⟨d, some⟩ := Option.isSome_iff_exists.1 some
  obtain ⟨mem, number⟩ := mem_of_claim? some
  exact ⟨d, some, h.faulted d mem number⟩

/-- A change of claims that keeps numbers and leaves FAULTED claims alone. -/
theorem FaultedAs.mapClaims {t : State} {n : Nat} {k : FaultCause} (h : FaultedAs t n k) {f : ClaimRec → ClaimRec}
    (number : ∀ c, (f c).number = c.number) (spares : ∀ c, c.state = .faulted → f c = c) : FaultedAs (t.mapClaims f) n k where
  found := by
    obtain ⟨c, mem, is⟩ := h.found
    exact ⟨f c, List.mem_map_of_mem mem, (number c).trans is⟩
  faulted d mem is := by
    obtain ⟨c, before, rfl⟩ := List.mem_map.1 mem
    have faulted := h.faulted c before ((number c).symm.trans is)
    rwa [spares c faulted.1]

theorem hold_number (add : Reasons → Reasons) (c : ClaimRec) : (c.hold add).number = c.number := by
  unfold ClaimRec.hold
  split
  · rfl
  · split <;> rfl

theorem hold_of_not_holdable (add : Reasons → Reasons) {c : ClaimRec} (idle : c.holdable = false) : c.hold add = c := by
  simp only [ClaimRec.holdable, Bool.or_eq_false_iff, decide_eq_false_iff_not] at idle
  simp [ClaimRec.hold, idle]

theorem not_holdable_of_faulted {c : ClaimRec} (faulted : c.state = .faulted) : c.holdable = false := by
  simp [ClaimRec.holdable, ClaimRec.running, faulted]

theorem FaultedAs.holdWhere {t : State} {n : Nat} {k : FaultCause} (h : FaultedAs t n k) (p : ClaimRec → Bool) (add : Reasons → Reasons) :
    FaultedAs (t.holdWhere p add) n k := by
  refine h.mapClaims (fun c => ?_) fun c faulted => ?_
  · split
    · exact hold_number add c
    · rfl
  · rw [hold_of_not_holdable add (not_holdable_of_faulted faulted), ite_self]

theorem FaultedAs.raiseColumn {t : State} {n : Nat} {k : FaultCause} (h : FaultedAs t n k) (m : Mover) : FaultedAs (t.raiseColumn m) n k := by
  unfold State.raiseColumn
  split
  · exact h.holdWhere _ _
  · exact h

theorem FaultedAs.regroup {t : State} {n : Nat} {k : FaultCause} (h : FaultedAs t n k) : FaultedAs t.regroup n k := by
  obtain ⟨f, eq, reheld⟩ := regroup_reheld t
  rw [eq]
  exact h.mapClaims (fun c => (reheld c).number) fun c faulted => (reheld c).idle (not_holdable_of_faulted faulted)

theorem partnerFaulted_number (c : ClaimRec) : c.partnerFaulted.number = c.number := by
  unfold ClaimRec.partnerFaulted
  split
  · exact hold_number _ c
  · rfl

theorem partnerFaulted_of_faulted {c : ClaimRec} (faulted : c.state = .faulted) : c.partnerFaulted = c :=
  if_neg (by rw [not_holdable_of_faulted faulted]; exact Bool.false_ne_true)

/-- A fault finding taken for a claim that can fault leaves it FAULTED with its cause (R42). -/
theorem faultClaim_faultedAs {s : State} {c : ClaimRec} (mem : c ∈ s.claims) (can : c.canFault = true) (k : FaultCause) :
    FaultedAs (s.faultClaim c k) c.number k := by
  have entered : FaultedAs (latch .claimFault (s.updClaim c.number fun x => x.fault k)) c.number k := by
    refine ⟨⟨c.fault k, List.mem_map.2 ⟨c, mem, if_pos rfl⟩, rfl⟩, fun d mem number => ?_⟩
    obtain ⟨x, -, rfl⟩ := List.mem_map.1 mem
    by_cases same : x.number = c.number
    · rw [if_pos same]
      exact ⟨rfl, rfl⟩
    · rw [if_neg same] at number
      exact absurd number same
  unfold State.faultClaim
  rw [if_pos can]
  refine FaultedAs.regroup (FaultedAs.mapClaims ?_ (fun d => ?_) fun d faulted => ?_)
  · split
    · exact entered
    · exact entered.raiseColumn _
  · split
    · exact partnerFaulted_number d
    · rfl
  · rw [partnerFaulted_of_faulted faulted, ite_self]

/-! ## The STALE finding without a live claim (R14) -/

theorem stateNotices_frame (before : State) (ms : List Mover) (s : State) : stateNotices before ms s =
    { s with claims := (stateNotices before ms s).claims, attention := (stateNotices before ms s).attention } := by
  rw [stateNotices, trustNotices_frame, setNotices_frame]

theorem afterSetChange_frame (before s : State) (n : Nat) : State.afterSetChange before s n = { s with
    claims := (State.afterSetChange before s n).claims, sets := (State.afterSetChange before s n).sets
    groups := (State.afterSetChange before s n).groups, pointer := (State.afterSetChange before s n).pointer
    served := (State.afterSetChange before s n).served, attention := (State.afterSetChange before s n).attention } := by
  have frame := passIf_frame (trustGained before s [before.moverOf n]) (stateNotices before [before.moverOf n] s)
  unfold State.afterSetChange
  rw [frame, stateNotices_frame]

/-- A set that is BARRED stays as it is through the notices and the pass of a change. -/
theorem afterSetChange_setRec {before s : State} {n k : Nat} (barred : (s.setRec k).state = .barred) :
    (State.afterSetChange before s n).setRec k = s.setRec k := by
  have noticed : (stateNotices before [before.moverOf n] s).setRec k = s.setRec k := by
    rw [stateNotices_frame]
    rfl
  rw [← noticed] at barred ⊢
  exact ((passIf_granting _ _).sets k).resolve_right fun ⟨_, _, trusted, _⟩ => trusted barred

theorem stale_eq {x : SetRec} (resting : x.state = .dark ∨ x.state = .resting) : x.stale = x.bar .station := by
  unfold SetRec.stale
  rcases resting with h | h <;> rw [h]

theorem registryStale_setRec {s : State} {n : Nat} (range : 1 ≤ n ∧ n ≤ 128)
    (resting : (s.setRec n).state = .dark ∨ (s.setRec n).state = .resting) :
    (s.registryStale n).setRec n = (s.setRec n).bar .station := by
  have barred : (s.updSet n SetRec.stale).setRec n = (s.setRec n).bar .station := by
    rw [setRec_updSet, if_pos ⟨rfl, range⟩, stale_eq resting]
  exact (afterSetChange_setRec (by rw [barred]; rfl)).trans barred

/-! ## The STALE finding (R109) -/

theorem staleFinding_live {s : State} {n : Nat} {c : ClaimRec} (live : s.liveClaim (s.moverOf n) = some c) :
    s.staleFinding n = s.faultClaim c .stale := by
  unfold State.staleFinding
  rw [live]

theorem staleFinding_free {s : State} {n : Nat} (free : s.liveClaim (s.moverOf n) = none) : s.staleFinding n = s.registryStale n := by
  unfold State.staleFinding
  rw [free]

theorem staleFinding_buses (s : State) (n : Nat) : (s.staleFinding n).buses = s.buses := by
  cases h : s.liveClaim (s.moverOf n) with
  | some c => rw [staleFinding_live h, faultClaim_frame]
  | none =>
    rw [staleFinding_free h, State.registryStale, afterSetChange_frame]
    rfl

/-- The live claim of a mover is in the table, and in a state other than WAITING. -/
theorem mem_of_liveClaim {s : State} {m : Mover} {c : ClaimRec} (live : s.liveClaim m = some c) : c ∈ s.claims ∧ c.live = true := by
  obtain ⟨found, live⟩ := Option.filter_eq_some_iff.1 live
  exact ⟨List.mem_of_find?_eq_some found, live⟩

/-- What the STALE finding for a set does: a live claim enters FAULTED, or else the set becomes BARRED (R14, R42, R109). -/
theorem staleFinding_settled (s : State) (n : Nat) :
    (∀ c, s.liveClaim (s.moverOf n) = some c → c.state ≠ .faulted →
      ∃ d, (s.staleFinding n).claim? c.number = some d ∧ d.state = .faulted ∧ d.cause = some .stale) ∧
    (s.liveClaim (s.moverOf n) = none → 1 ≤ n → n ≤ 128 → (s.setRec n).state = .dark ∨ (s.setRec n).state = .resting →
      ((s.staleFinding n).setRec n).state = .barred ∧ ((s.staleFinding n).setRec n).barredCause = some .station ∧
        ((s.staleFinding n).setRec n).restPosition = none) := by
  refine ⟨fun c claimed able => ?_, fun free lo hi resting => ?_⟩
  · obtain ⟨mem, live⟩ := mem_of_liveClaim claimed
    rw [staleFinding_live claimed]
    exact (faultClaim_faultedAs mem (by simp [ClaimRec.canFault, live, able]) .stale).claim?
  · rw [staleFinding_free free, registryStale_setRec ⟨lo, hi⟩ resting]
    exact ⟨rfl, rfl, rfl⟩

/-! ## The miss judged -/

theorem judgeMiss_buses (s : State) (f : Segment) (p : Poll) (k : MissKind) :
    (s.judgeMiss f p k).buses = s.buses.put f ((s.bus f).missed p k (s.isLive p.set)) := by
  rw [judgeMiss_eq]
  split
  · exact staleFinding_buses _ _
  · rfl

/-- Settles O48: the controller after a miss, short of the third no other record, and at the third the STALE finding. -/
theorem pollMissed : Obligations.PollMissed := by
  refine ⟨reportMiss_eq, fun f i k p s misses polling poll configured lo hi => ?_⟩
  have buses := judgeMiss_buses s f p k
  have judged : (s.judgeMiss f p k).bus f = (s.bus f).missed p k (s.isLive p.set) := by
    rw [State.bus, buses, PerSegment.get_put_self]
  refine ⟨_, exec_missed misses polling poll configured, ?_⟩
  rw [judged]
  refine ⟨rfl, fun g other => ?_, ?_, fun a other => ?_, rfl, rfl, ?_, fun early => ?_, fun third => ?_⟩
  · rw [State.bus, buses, PerSegment.get_put, if_neg other]
    rfl
  · rw [missed_station, station_putStation_self _ ⟨lo, hi⟩, station_miss_eq]
  · exact station_putStation_other _ other _
  · rw [← staleNotices_eq]
    rfl
  · rw [judgeMiss_eq, if_neg early]
    rfl
  · rw [judgeMiss_eq, if_pos third]
    exact staleFinding_settled (s.updBus f fun b => b.missed p k (s.isLive p.set)) p.set

end Sys2Proof.Machine
end

section
/-! SUPPORT. What breaks and loop tests rest on: hold reasons for a segment, claims held and released by a step, the lines of a poll, and a controller that clears its fresh flags and enters POLLING or IDLE. -/

namespace Sys2Proof.Machine

/-! ## SEGMENT among the reasons (R149) -/

@[simp] theorem putSegment_segment (r : Reasons) (f g : Segment) (b : Bool) :
    (r.putSegment f b).segment g = if g = f then b else r.segment g := by cases f <;> cases g <;> rfl

theorem firm_of_segment {r : Reasons} {f : Segment} (carried : r.segment f = true) : r.firm = true := by
  refine decide_eq_true fun empty => ?_
  have absent := congrArg (Reasons.segment · f) empty
  cases f
  · exact Bool.false_ne_true (absent.symm.trans carried)
  · exact Bool.false_ne_true (absent.symm.trans carried)

theorem firm_of_operator {r : Reasons} (carried : r.operator = true) : r.firm = true :=
  decide_eq_true fun empty => Bool.false_ne_true ((congrArg Reasons.operator empty).symm.trans carried)

/-- A re-evaluation of COLUMN and GROUP holds keeps SEGMENT and OPERATOR. -/
theorem Reheld.segment {c d : ClaimRec} (h : Reheld c d) (f : Segment) : d.reasons.segment f = c.reasons.segment f := by
  have same := congrArg (Reasons.segment · f) h.firm
  cases f
  · exact same
  · exact same

theorem Reheld.operator {c d : ClaimRec} (h : Reheld c d) : d.reasons.operator = c.reasons.operator := by
  have same := congrArg Reasons.operator h.firm
  exact same

theorem convertSegment_of_carried {r : Reasons} {f : Segment} (carried : r.segment f = true) :
    r.convertSegment f = (r.putSegment f false).addOperator := if_pos carried

theorem addOperator_segment (r : Reasons) (f : Segment) : r.addOperator.segment f = r.segment f := by cases f <;> rfl

theorem convertSegment_segment (r : Reasons) (f g : Segment) :
    (r.convertSegment f).segment g = if g = f then false else r.segment g := by
  by_cases carried : r.segment f = true
  · rw [convertSegment_of_carried carried, addOperator_segment, putSegment_segment]
  · have same : r.convertSegment f = r := if_neg carried
    rw [same]
    split
    · rename_i e
      exact e ▸ Bool.eq_false_of_not_eq_true carried
    · rfl

/-! ## A hold reason added (R37) -/

theorem hold_of_holdable (add : Reasons → Reasons) {c : ClaimRec} (holdable : c.holdable = true) :
    (c.hold add).state = .held ∧ (c.hold add).reasons = add c.reasons ∧ (c.hold add).span = c.span ∧ (c.hold add).taken = c.taken := by
  unfold ClaimRec.hold
  split
  · exact ⟨rfl, rfl, rfl, rfl⟩
  · rename_i still
    have held : c.state = .held := by simpa [ClaimRec.holdable, still] using holdable
    rw [if_pos held]
    exact ⟨held, rfl, rfl, rfl⟩

theorem hold_mover (add : Reasons → Reasons) (c : ClaimRec) : (c.hold add).mover = c.mover := by
  unfold ClaimRec.hold
  split
  · rfl
  · split <;> rfl

theorem not_running_of_not_holdable {c : ClaimRec} (idle : c.holdable = false) : c.running = false ∧ c.state ≠ .held := by
  simpa [ClaimRec.holdable] using idle

theorem not_running_of_held {c : ClaimRec} (held : c.state = .held) : c.running = false := by simp [ClaimRec.running, held]

/-! ## The laws of the queues -/

theorem QueueLaws.congr {s t : State} (q : QueueLaws s) (claims : t.claims = s.claims) (groups : t.groups = s.groups) : QueueLaws t := by
  unfold QueueLaws GroupsWait State.group? State.claim? at *
  rw [claims, groups]
  exact q

/-! ## The lines of a poll (R95, R194) -/

/-- An address character, five data bytes and a check byte. -/
@[simp] theorem frameChars_length (a : Nat) (c : Content) (g : Bool) : (frameChars a c g).length = 7 := rfl

/-- While seven characters are driven, DE is asserted for their 77 bit times, TXD shows them, and is marking afterwards. -/
theorem lines_of_driven {b : Bus} {cs : List LineChar} (driven : b.driven = cs) (seven : cs.length = 7) :
    (∀ k, b.de k = decide (k < 77)) ∧ (∀ i j c, cs[i]? = some c → j < 11 → b.txd (11 * i + j) = c.getLsbD j) ∧
      ∀ k, 77 ≤ k → b.txd k = true := by
  subst driven
  refine ⟨fun k => ?_, fun i j c => txd_bit b i j c, fun k beyond => txd_beyond b k ?_⟩
  · rw [Bus.de, seven]
  · rw [seven]
    exact beyond

theorem lines_released {b : Bus} (driven : b.driven = []) (k : Nat) : b.de k = false ∧ b.txd k = true :=
  ⟨de_released b k driven, txd_marking b k driven⟩

/-! ## A segment enters POLLING or IDLE (R99) -/

theorem enterPolling_bus (s : State) (f : Segment) : (s.enterPolling f).bus f =
    { s.bus f with state := .polling, poll := none, round := some (s.formRound (s.bus f)) } := bus_updBus_self s f _

theorem enterIdle_bus (s : State) (f : Segment) : (s.enterIdle f).bus f = { s.bus f with state := .idle, poll := none, round := none } :=
  bus_updBus_self s f _

/-- The lists of a round rest on which stations are configured for which sets, on the set records and on the claims (R100). -/
theorem formRound_congr {s t : State} {b c : Bus} (stations : SameStations b c) (sets : t.sets = s.sets) (claims : t.claims = s.claims) :
    t.formRound c = s.formRound b := by
  have active : t.stationActive c = s.stationActive b := by
    funext a
    unfold State.stationActive State.moverOf State.claimOf
    simp only [stations a, setRec_congr sets, claims]
  unfold State.formRound
  rw [stations.configured, active]

end Sys2Proof.Machine
end

section
/-! PROOF. Breaks, break end, the loop test and the lines of the fly bus (O50). -/

namespace Sys2Proof.Machine

/-! ## A break (R110, R149) -/

/-- A claim after a break on segment `f`, before the groups are re-evaluated (R149). -/
def State.breakHeld (s : State) (f : Segment) (c : ClaimRec) : ClaimRec :=
  if s.moverOn c.mover f then c.hold fun r => r.putSegment f true else c

theorem breakHeld_number (s : State) (f : Segment) (c : ClaimRec) : (s.breakHeld f c).number = c.number := by
  unfold State.breakHeld
  split
  · exact hold_number _ c
  · rfl

theorem breakHeld_mover (s : State) (f : Segment) (c : ClaimRec) : (s.breakHeld f c).mover = c.mover := by
  unfold State.breakHeld
  split
  · exact hold_mover _ c
  · rfl

theorem breakHeld_of_not_holdable (s : State) (f : Segment) {c : ClaimRec} (idle : c.holdable = false) : s.breakHeld f c = c := by
  unfold State.breakHeld
  rw [hold_of_not_holdable _ idle, ite_self]

/-- A claim with a set on the segment, in a state that receives a hold reason, is HELD with SEGMENT after the break. -/
theorem breakHeld_reheld {s : State} {f : Segment} {c d : ClaimRec} (on : s.moverOn c.mover f = true) (holdable : c.holdable = true)
    (reheld : Reheld (s.breakHeld f c) d) :
    d.state = .held ∧ d.reasons.segment f = true ∧ d.span = c.span ∧ d.taken = c.taken := by
  have added : s.breakHeld f c = c.hold fun r => r.putSegment f true := if_pos on
  obtain ⟨held, reasons, span, taken⟩ := hold_of_holdable (fun r => r.putSegment f true) holdable
  rw [← added] at held reasons span taken
  have carried : (s.breakHeld f c).reasons.segment f = true := by
    rw [reasons, putSegment_segment, if_pos rfl]
  exact ⟨reheld.held held (firm_of_segment carried), (reheld.segment f).trans carried, reheld.span.trans span, reheld.taken.trans taken⟩

/-- A break on a POLLING segment: the controller BROKEN, each claim held and re-evaluated, the break latched. -/
theorem breakDetected_eq {s : State} {f : Segment} (polling : (s.bus f).state = .polling) : ∃ g : ClaimRec → ClaimRec,
    s.breakDetected f = latch (Source.ofBreak f) ((s.updBus f Bus.enterBroken).mapClaims g) ∧ ∀ c, Reheld (s.breakHeld f c) (g c) := by
  obtain ⟨h, regrouped, reheld⟩ := regroup_reheld ((s.updBus f Bus.enterBroken).mapClaims (s.breakHeld f))
  refine ⟨h ∘ s.breakHeld f, ?_, fun c => reheld _⟩
  rw [mapClaims_mapClaims] at regrouped
  rw [← regrouped]
  exact if_pos polling

theorem break_settled (f : Segment) (s : State) (polling : (s.bus f).state = .polling) :
    ∃ t, exec (.breakDetected f) s = .next t ∧
      t = { s with claims := t.claims, buses := t.buses, attention := t.attention } ∧
      t.buses = s.buses.put f { s.bus f with state := .broken, poll := none, round := none } ∧
      t.attention = s.attention.latchTimes (Source.ofBreak f) 1 ∧
      t.claims.map ClaimRec.number = s.claims.map ClaimRec.number ∧
      (∀ c ∈ t.claims, s.moverOn c.mover f = true → c.running = false ∧ (c.state = .held → c.reasons.segment f = true)) ∧
      (NumbersDistinct s → ∀ c ∈ s.claims, s.moverOn c.mover f = true → c.holdable = true → HeldFor (fun r => r.segment f) t c) ∧
      (∀ c ∈ s.claims, c.holdable = false → c ∈ t.claims) ∧
      ∀ k, (t.bus f).de k = false ∧ (t.bus f).txd k = true := by
  obtain ⟨g, broken, reheld⟩ := breakDetected_eq polling
  have number (c : ClaimRec) : (g c).number = c.number := (reheld c).number.trans (breakHeld_number s f c)
  have spared {c : ClaimRec} (idle : c.holdable = false) : g c = c := by
    have same := breakHeld_of_not_holdable s f idle
    exact ((reheld c).idle (same.symm ▸ idle)).trans same
  refine ⟨_, congrArg Host.Outcome.next broken, rfl, rfl, rfl, numbers_mapClaims _ g number, fun d mem on => ?_,
    fun distinct c mem on holdable => ?_, fun c mem idle => ?_, lines_released ?_⟩
  · obtain ⟨c, -, rfl⟩ := List.mem_map.1 mem
    rw [(reheld c).mover, breakHeld_mover] at on
    by_cases holdable : c.holdable = true
    · obtain ⟨held, carried, -, -⟩ := breakHeld_reheld on holdable (reheld c)
      exact ⟨not_running_of_held held, fun _ => carried⟩
    · have idle := Bool.eq_false_of_not_eq_true holdable
      obtain ⟨still, notHeld⟩ := not_running_of_not_holdable idle
      rw [spared idle]
      exact ⟨still, fun held => absurd held notHeld⟩
  · refine ⟨g c, ?_, breakHeld_reheld on holdable (reheld c)⟩
    exact (claim?_mapClaims (s.updBus f Bus.enterBroken) g number c.number).trans
      (congrArg (Option.map g) (claim?_of_mem (s := s) distinct.1 mem))
  · exact List.mem_map.2 ⟨c, mem, spared idle⟩
  · have state := congrArg Bus.state (bus_updBus_self s f Bus.enterBroken)
    exact driven_of_state _ (ne_of_eq_of_ne state nofun)

/-! ## Break end (R112, R149) -/

/-- The records once the controller has left BROKEN, before the claims are released. -/
def State.breakLeft (s : State) (f : Segment) : State :=
  if (s.bus f).configured = [] then (s.clearSegment f).enterIdle f else (s.clearSegment f).enterPolling f

theorem breakLeft_frame (s : State) (f : Segment) : s.breakLeft f = { s with buses := (s.breakLeft f).buses } := by
  unfold State.breakLeft
  split <;> rfl

theorem breakLeft_bus (s : State) (f : Segment) : (s.breakLeft f).bus f = { (s.bus f).clearFresh with
    state := if (s.bus f).configured = [] then .idle else .polling
    poll := none
    round := if (s.bus f).configured = [] then none else some (s.formRound (s.bus f))
    freshNotices := (s.bus f).freshNotices ++ s.clearNotices f } := by
  unfold State.breakLeft
  split
  · rw [enterIdle_bus, clearSegment_bus]
  · have lists : (s.clearSegment f).formRound ((s.clearSegment f).bus f) = s.formRound (s.bus f) :=
      formRound_congr (by rw [clearSegment_bus]; exact sameStations_clearFresh _) rfl rfl
    rw [enterPolling_bus, lists, clearSegment_bus]

theorem breakLeft_bus_other (s : State) {f g : Segment} (other : g ≠ f) : (s.breakLeft f).bus g = s.bus g := by
  have cleared : (s.clearSegment f).bus g = s.bus g := bus_updBus_other s other _
  rw [← cleared]
  unfold State.breakLeft
  split
  · exact bus_updBus_other _ other _
  · exact bus_updBus_other _ other _

/-- A claim after break end, before the claims are settled (R149). -/
def ClaimRec.breakReleased (f : Segment) (c : ClaimRec) : ClaimRec := { c with reasons := c.reasons.convertSegment f }

/-- Break end on a BROKEN segment: the controller, each claim released from SEGMENT and re-evaluated, and the pass. -/
theorem breakEnd_eq {s : State} {f : Segment} (broken : (s.bus f).state = .broken) : ∃ g : ClaimRec → ClaimRec,
    s.breakEnd f = passIf (decide ((s.bus f).configured ≠ [])) ((s.breakLeft f).mapClaims g) ∧ ∀ c, Reheld (c.breakReleased f) (g c) := by
  obtain ⟨h, settled, reheld⟩ := settle_reheld ((s.breakLeft f).mapClaims (ClaimRec.breakReleased f))
  refine ⟨h ∘ ClaimRec.breakReleased f, ?_, fun c => reheld _⟩
  rw [mapClaims_mapClaims] at settled
  rw [← settled]
  exact if_pos broken

/-- A HELD claim that carried SEGMENT for the segment is HELD with OPERATOR instead (R149). -/
theorem breakReleased_reheld {f : Segment} {c d : ClaimRec} (held : c.state = .held) (carried : c.reasons.segment f = true)
    (reheld : Reheld (c.breakReleased f) d) : d.state = .held ∧ d.reasons.operator = true := by
  have operator : (c.breakReleased f).reasons.operator = true := congrArg Reasons.operator (convertSegment_of_carried carried)
  exact ⟨reheld.held held (firm_of_operator operator), reheld.operator.trans operator⟩

theorem breakReleased_segment {f : Segment} {c d : ClaimRec} (reheld : Reheld (c.breakReleased f) d) (g : Segment) :
    d.reasons.segment g = if g = f then false else c.reasons.segment g :=
  (reheld.segment g).trans (convertSegment_segment _ f g)

theorem breakEnd_settled (f : Segment) (s : State) (broken : (s.bus f).state = .broken) :
    ∃ t, exec (.breakEnd f) s = .next t ∧
      t = { s with claims := t.claims, sets := t.sets, groups := t.groups, pointer := t.pointer, served := t.served
                   buses := t.buses } ∧
      (t.bus f).state = (if (s.bus f).configured = [] then .idle else .polling) ∧
      (∀ a, (t.bus f).station a = { (s.bus f).station a with missCount := 0, fresh := false }) ∧
      (∀ g, g ≠ f → t.bus g = s.bus g) ∧ (∀ c ∈ t.claims, c.reasons.segment f = false) ∧
      t.bus f = { s.bus f with
        state := (t.bus f).state, stations := (t.bus f).stations, poll := none
        round := if (s.bus f).configured = [] then none else some (s.formRound (s.bus f))
        freshNotices := (s.bus f).freshNotices ++ s.clearNotices f } ∧
      (ClaimLaws s → ∀ c ∈ s.claims, c.state = .held → c.reasons.segment f = true →
        ∃ d, t.claim? c.number = some d ∧ d.state = .held ∧ d.reasons.operator = true ∧ d.reasons.segment f = false ∧
          (∀ g, g ≠ f → d.reasons.segment g = c.reasons.segment g) ∧ d.span = c.span) := by
  obtain ⟨g, ended, reheld⟩ := breakEnd_eq broken
  have number (c : ClaimRec) : (g c).number = c.number := (reheld c).number
  have frame := passIf_frame (decide ((s.bus f).configured ≠ [])) ((s.breakLeft f).mapClaims g)
  rw [← ended] at frame
  have buses : (s.breakEnd f).buses = (s.breakLeft f).buses := by rw [frame]; rfl
  have claims : (s.breakLeft f).claims = s.claims := by rw [breakLeft_frame]
  have groups : (s.breakLeft f).groups = s.groups := by rw [breakLeft_frame]
  have bus := (bus_congr buses f).trans (breakLeft_bus s f)
  refine ⟨s.breakEnd f, rfl, ?_, ?_, fun a => ?_, fun k other => ?_, fun d mem => ?_, ?_, fun laws c mem held carried => ?_⟩
  · rw [frame, breakLeft_frame]
    rfl
  · rw [bus]
  · rw [bus]
    exact station_clearFresh _ a
  · exact (bus_congr buses k).trans (breakLeft_bus_other s other)
  · rw [ended] at mem
    obtain ⟨e, mem, regranted⟩ := (passIf_granting _ _).before mem
    obtain ⟨c, -, rfl⟩ := List.mem_map.1 mem
    rw [regranted.same]
    exact (breakReleased_segment (reheld c) f).trans (if_pos rfl)
  · rw [bus]
    rfl
  · obtain ⟨stays, operator⟩ := breakReleased_reheld held carried (reheld c)
    have found : ((s.breakLeft f).mapClaims g).claim? c.number = some (g c) := by
      rw [claim?_mapClaims _ g number, State.claim?, claims]
      exact congrArg (Option.map g) (claim?_of_mem laws.1.1 mem)
    have queues : QueueLaws ((s.breakLeft f).mapClaims g) :=
      (laws.queues.congr claims groups).map g number (fun c => (reheld c).group) (fun c => by rw [(reheld c).same]; rfl)
        fun c => (reheld c).waiting
    have segment := breakReleased_segment (reheld c)
    rw [ended]
    exact ⟨g c, claim?_passIf queues _ found (by rw [stays]; exact nofun), stays, operator, (segment f).trans (if_pos rfl),
      fun k other => (segment k).trans (if_neg other), (reheld c).span⟩

/-! ## LOOP TEST (R113) -/

theorem serveLoopTest_wrongState {f : Segment} {s : State} (wrong : (s.bus f).state ≠ .polling) :
    serveLoopTest f.code s = (s, Reply.of .wrongState) := by
  unfold serveLoopTest
  rw [ofCode_code]
  exact if_pos wrong

theorem serveLoopTest_busy {f : Segment} {s : State} (polling : (s.bus f).state = .polling) (busy : s.liveOn f = true) :
    serveLoopTest f.code s = (s, Reply.of .segmentBusy) := by
  unfold serveLoopTest
  rw [ofCode_code]
  exact (if_neg (not_not.2 polling)).trans (if_pos busy)

theorem serveLoopTest_started {f : Segment} {s : State} (polling : (s.bus f).state = .polling) (quiet : s.liveOn f ≠ true) :
    serveLoopTest f.code s = (s.updBus f Bus.startLoop, Reply.of .done) := by
  unfold serveLoopTest
  rw [ofCode_code]
  exact (if_neg (not_not.2 polling)).trans (if_neg quiet)

theorem loopTest_settled (l : Link) (tag : Word16) (f : Segment) (s : State) (desk : FullDesk s l) :
    ∃ t, exec (.loopTest l tag f.code) s = .next t ∧
      if (s.bus f).state ≠ .polling then AnswerOnly s t l 44 tag (Reply.of .wrongState)
      else if s.liveOn f = true then AnswerOnly s t l 44 tag (Reply.of .segmentBusy)
      else t = { s with buses := t.buses, links := t.links } ∧ Answered s t l 44 tag (Reply.of .done) ∧
        t.buses = s.buses.put f (s.bus f).startLoop ∧ ∀ k, (t.bus f).de k = false ∧ (t.bus f).txd k = true := by
  have form : formOk (.loopTest f.code) = true := by cases f <;> rfl
  by_cases polling : (s.bus f).state = .polling
  · simp only [ne_eq, polling, not_true_eq_false, if_false]
    by_cases busy : s.liveOn f = true
    · simp only [busy, if_true]
      exact exec_answerOnly (r := .loopTest f.code) desk rfl form (serveLoopTest_busy polling busy)
    · simp only [busy, Bool.false_eq_true, if_false]
      refine ⟨_, exec_taken (r := .loopTest f.code) desk rfl form (serveLoopTest_started polling busy), rfl,
        answered_queueReply l 44 tag _ rfl, rfl, lines_released (driven_of_state _ ?_)⟩
      rw [queueReply_bus, bus_updBus_self]
      exact nofun
  · simp only [ne_eq, polling, not_false_eq_true, if_true]
    exact exec_answerOnly (r := .loopTest f.code) desk rfl form (serveLoopTest_wrongState polling)

/-! ## A TEST frame compared (R114, R115) -/

theorem count_eq (x : LoopRun) (a : Nat) (rest : List Nat) (cs : List (Option LineChar)) : x.count a rest (x.passes a cs) =
    if cs = (frameChars a { command := .test, target := a, cap := x.passed + x.failed + 1 } false).map some
      then { x with left := rest, passed := x.passed + 1 }
      else { x with left := rest, failed := x.failed + 1, lowestFailed := x.lowestFailed.or (some a) } := by
  unfold LoopRun.passes testContent
  split
  · rename_i same
    rw [decide_eq_true same]
    rfl
  · rename_i differ
    rw [decide_eq_false differ]
    rfl

theorem testFrame_eq {s : State} {f : Segment} {x : LoopRun} {a : Nat} {rest : List Nat} (running : (s.bus f).loop = some x)
    (left : x.left = a :: rest) (cs : List (Option LineChar)) : s.testFrame f cs =
      if rest = [] then s.loopEnd f (x.count a rest (x.passes a cs))
      else s.updBus f fun b => { b with loop := some (x.count a rest (x.passes a cs)) } := by
  unfold State.testFrame
  rw [running]
  dsimp only
  rw [left]

/-- The records with the loop test over and its result kept (R115). -/
def State.loopOver (s : State) (f : Segment) (x : LoopRun) : State :=
  s.updBus f fun b => { b with loop := none, loopResult := some x.result }

/-- The records at the end of a loop test, before the pass. -/
def State.loopLeft (s : State) (f : Segment) (x : LoopRun) : State := ((s.loopOver f x).clearSegment f).enterPolling f

theorem loopEnd_frame (s : State) (f : Segment) (x : LoopRun) : PassFrame (latch .loopDone (s.loopLeft f x)) (s.loopEnd f x) :=
  pass_frame _

theorem loopEnd_buses (s : State) (f : Segment) (x : LoopRun) : (s.loopEnd f x).buses = (s.loopLeft f x).buses := by
  rw [loopEnd_frame]
  rfl

theorem loopLeft_bus_other (s : State) {f g : Segment} (other : g ≠ f) (x : LoopRun) : (s.loopLeft f x).bus g = s.bus g :=
  (bus_updBus_other _ other _).trans ((bus_updBus_other _ other _).trans (bus_updBus_other s other _))

theorem loopEnd_settled (s : State) (f : Segment) (x : LoopRun) :
    s.loopEnd f x = { s with
      claims := (s.loopEnd f x).claims, sets := (s.loopEnd f x).sets, groups := (s.loopEnd f x).groups
      pointer := (s.loopEnd f x).pointer, served := (s.loopEnd f x).served, buses := (s.loopEnd f x).buses
      attention := (s.loopEnd f x).attention } ∧
    ((s.loopEnd f x).bus f).state = .polling ∧ ((s.loopEnd f x).bus f).loop = none ∧
    ((s.loopEnd f x).bus f).loopResult = some x.result ∧
    (∀ b, ((s.loopEnd f x).bus f).station b = { (s.bus f).station b with missCount := 0, fresh := false }) ∧
    (s.loopEnd f x).attention = s.attention.latchTimes .loopDone 1 := by
  refine ⟨?_, ?_⟩
  · rw [loopEnd_frame]
    rfl
  · rw [bus_congr (loopEnd_buses s f x), State.loopLeft, enterPolling_bus, clearSegment_bus, State.loopOver, bus_updBus_self]
    refine ⟨rfl, rfl, rfl, fun b => station_clearFresh (s.bus f) b, ?_⟩
    rw [loopEnd_frame]
    rfl

theorem testFrame_settled (f : Segment) (x y : LoopRun) (a : Nat) (rest : List Nat) (cs : List (Option LineChar)) (s : State)
    (running : (s.bus f).loop = some x) (left : x.left = a :: rest)
    (counted : y = (if cs = (frameChars a { command := .test, target := a, cap := x.passed + x.failed + 1 } false).map some
      then { x with left := rest, passed := x.passed + 1 }
      else { x with left := rest, failed := x.failed + 1, lowestFailed := x.lowestFailed.or (some a) })) :
    ∃ t, exec (.testFrameCompared f cs) s = .next t ∧ (∀ g, g ≠ f → t.bus g = s.bus g) ∧
      if rest ≠ [] then t = { s with buses := t.buses } ∧ t.bus f = { s.bus f with loop := some y }
      else
        t = { s with claims := t.claims, sets := t.sets, groups := t.groups, pointer := t.pointer, served := t.served
                     buses := t.buses, attention := t.attention } ∧
          (t.bus f).state = .polling ∧ (t.bus f).loop = none ∧ (t.bus f).loopResult = some y.result ∧
          (∀ b, (t.bus f).station b = { (s.bus f).station b with missCount := 0, fresh := false }) ∧
          t.attention = s.attention.latchTimes .loopDone 1 := by
  have compared := testFrame_eq running left cs
  rw [count_eq, ← counted] at compared
  refine ⟨_, congrArg Host.Outcome.next compared, ?_⟩
  by_cases last : rest = []
  · rw [if_pos last, if_neg (not_not.2 last)]
    exact ⟨fun g other => (bus_congr (loopEnd_buses s f y) g).trans (loopLeft_bus_other s other y), loopEnd_settled s f y⟩
  · rw [if_neg last, if_pos last]
    exact ⟨fun g other => bus_updBus_other s other _, rfl, bus_updBus_self s f _⟩

/-! ## The lines (R95, R114, R120) -/

theorem pollLines_settled (f : Segment) (x : Turn) (n : Nat) (s : State) (polling : (s.bus f).state = .polling)
    (free : (s.bus f).poll = none) (turn : s.nextStation (s.bus f) = some x) (set : ((s.bus f).station x.address).set = some n) :
    ∃ t p, exec (.pollBuild f) s = .next t ∧ (t.bus f).poll = some p ∧ p.sent = frameChars x.address p.content p.toggle ∧
      p.sent.length = 7 ∧ (∀ k, (t.bus f).de k = decide (k < 77)) ∧
      (∀ i j c, p.sent[i]? = some c → j < 11 → (t.bus f).txd (11 * i + j) = c.getLsbD j) ∧
      ∀ k, 77 ≤ k → (t.bus f).txd k = true := by
  have built := bus_putBus_self s f ((s.bus f).build x n (s.contentFor n))
  refine ⟨_, (s.bus f).builtPoll x n (s.contentFor n), congrArg Host.Outcome.next (pollBuild_built polling free turn set), ?_⟩
  rw [built]
  exact ⟨rfl, rfl, rfl, lines_of_driven (driven_polling _ _ polling rfl) rfl⟩

/-- Settles O50: a break, its end, the loop test asked for and its frames compared, and the lines in every state. -/
theorem breakAndLoop : Obligations.BreakAndLoop :=
  ⟨break_settled, breakEnd_settled,
    fun _ _ => ⟨fun other => congrArg Host.Outcome.next (if_neg other), fun other => congrArg Host.Outcome.next (if_neg other)⟩,
    loopTest_settled, testFrame_settled, pollLines_settled,
    fun b k quiet => lines_released (quiet.elim (driven_of_state b) (driven_of_poll b)) k,
    fun p w f k => lines_released (by rw [coldReset_bus]; rfl) k⟩

end Sys2Proof.Machine
end

section
/-! SUPPORT. What the passing of time leaves of each table, and what a fault finding leaves of its claim. -/

namespace Sys2Proof.Machine

/-! ## Time passes -/

theorem elapse_frame (ms : Nat) (s : State) : s.elapse ms = { s with
    claims := (s.elapse ms).claims, groups := (s.elapse ms).groups, stop := (s.elapse ms).stop, links := (s.elapse ms).links } := rfl

theorem elapse_claim? (ms : Nat) (s : State) (n : Nat) : (s.elapse ms).claim? n = (s.claim? n).map (ClaimRec.elapse ms) :=
  claim?_mapClaims s (ClaimRec.elapse ms) (fun _ => rfl) n

theorem elapse_group? (ms : Nat) (s : State) (g : Nat) : (s.elapse ms).group? g = (s.group? g).map (GroupRec.elapse ms) :=
  Tab.record?_map s.groups (GroupRec.elapse ms) g

theorem elapse_link (ms : Nat) (s : State) (l : Link) : (s.elapse ms).link l = (s.link l).elapse ms := by cases l <;> rfl

/-- No time leaves every timer of a supervision record as it is. -/
theorem Supervision.elapse_zero (x : Supervision) : x.elapse 0 = x := by
  obtain ⟨members, take, stall, window, deadline⟩ := x
  cases window <;> cases deadline <;> simp [Supervision.elapse]

/-- Two spans of time, one after the other, are their sum at every timer of a supervision record. -/
theorem Supervision.elapse_add (a b : Nat) (x : Supervision) : x.elapse (a + b) = (x.elapse a).elapse b := by
  obtain ⟨members, take, stall, window, deadline⟩ := x
  cases window <;> cases deadline <;> simp [Supervision.elapse, Function.comp_def, Nat.add_assoc, Nat.sub_add_eq]

theorem ClaimRec.elapse_zero (c : ClaimRec) : c.elapse 0 = c := by
  have sup : c.sup.map (Supervision.elapse 0) = c.sup := by simp [funext Supervision.elapse_zero]
  simp [ClaimRec.elapse, sup]

theorem ClaimRec.elapse_add (a b : Nat) (c : ClaimRec) : c.elapse (a + b) = (c.elapse a).elapse b := by
  simp [ClaimRec.elapse, Function.comp_def, funext (Supervision.elapse_add a b), Nat.add_assoc]

theorem GroupRec.elapse_zero (x : GroupRec) : x.elapse 0 = x := by simp [GroupRec.elapse]

theorem GroupRec.elapse_add (a b : Nat) (x : GroupRec) : x.elapse (a + b) = (x.elapse a).elapse b := by
  simp [GroupRec.elapse, Function.comp_def, Nat.add_assoc]

theorem StopRec.elapse_zero (x : StopRec) : x.elapse 0 = x := by simp [StopRec.elapse]

theorem StopRec.elapse_add (a b : Nat) (x : StopRec) : x.elapse (a + b) = (x.elapse a).elapse b := by
  simp [StopRec.elapse, Function.comp_def, Nat.add_assoc]

theorem LinkRec.elapse_zero (x : LinkRec) : x.elapse 0 = x := by simp [LinkRec.elapse]

theorem LinkRec.elapse_add (a b : Nat) (x : LinkRec) : x.elapse (a + b) = (x.elapse a).elapse b := by
  simp [LinkRec.elapse, Function.comp_def, Nat.add_assoc]

/-- No time leaves the part as it is. -/
theorem State.elapse_zero (s : State) : s.elapse 0 = s := by
  simp [State.elapse, funext ClaimRec.elapse_zero, funext GroupRec.elapse_zero, StopRec.elapse_zero, LinkRec.elapse_zero]

/-- Time passes at every timer in any number of spans alike. -/
theorem State.elapse_add (a b : Nat) (s : State) : s.elapse (a + b) = (s.elapse a).elapse b := by
  simp [State.elapse, Function.comp_def, funext (ClaimRec.elapse_add a b), funext (GroupRec.elapse_add a b), StopRec.elapse_add,
    LinkRec.elapse_add]

/-! ## A fault finding and its claim (R42) -/

/-- A change of claims that keeps numbers and leaves FAULTED claims alone. -/
structure SparesFaulted (f : ClaimRec → ClaimRec) : Prop where
  number : ∀ c, (f c).number = c.number
  faulted : ∀ c, c.state = .faulted → f c = c

theorem SparesFaulted.comp {f g : ClaimRec → ClaimRec} (hg : SparesFaulted g) (hf : SparesFaulted f) : SparesFaulted (g ∘ f) where
  number c := (hg.number _).trans (hf.number c)
  faulted c faulted := by rw [Function.comp_apply, hf.faulted c faulted, hg.faulted c faulted]

/-- A hold reason added to some claims. -/
theorem sparesFaulted_hold (p : ClaimRec → Bool) (add : Reasons → Reasons) : SparesFaulted fun c => if p c then c.hold add else c where
  number c := by
    split
    · exact hold_number add c
    · rfl
  faulted c faulted := by rw [hold_of_not_holdable add (not_holdable_of_faulted faulted), ite_self]

theorem raiseColumn_spares (s : State) (m : Mover) : ∃ f, s.raiseColumn m = s.mapClaims f ∧ SparesFaulted f := by
  unfold State.raiseColumn
  split
  · exact ⟨_, rfl, sparesFaulted_hold _ _⟩
  · exact ⟨id, by simp [State.mapClaims], fun _ => rfl, fun _ _ => rfl⟩

theorem regroup_spares (s : State) : ∃ f, s.regroup = s.mapClaims f ∧ SparesFaulted f := by
  obtain ⟨f, regrouped, reheld⟩ := regroup_reheld s
  exact ⟨f, regrouped, fun c => (reheld c).number, fun c faulted => (reheld c).idle (not_holdable_of_faulted faulted)⟩

theorem sparesFaulted_partner (c : ClaimRec) : SparesFaulted fun d => if c.partner d then d.partnerFaulted else d where
  number d := by
    split
    · exact partnerFaulted_number d
    · rfl
  faulted d faulted := by rw [partnerFaulted_of_faulted faulted, ite_self]

/-- The claims held for a fault: the new column where the mover was trusted, the partners, and the groups re-evaluated (R42). -/
theorem faultHolds_spares (s t : State) (c : ClaimRec) :
    ∃ f, ((if s.untrusted c.mover then t else t.raiseColumn c.mover).mapClaims fun d =>
        if c.partner d then d.partnerFaulted else d).regroup = t.mapClaims f ∧ SparesFaulted f := by
  have raised : ∃ f, (if s.untrusted c.mover then t else t.raiseColumn c.mover) = t.mapClaims f ∧ SparesFaulted f := by
    split
    · exact ⟨id, by simp [State.mapClaims], fun _ => rfl, fun _ _ => rfl⟩
    · exact raiseColumn_spares t c.mover
  obtain ⟨f, raised, sparesColumn⟩ := raised
  rw [raised]
  obtain ⟨g, regrouped, sparesGroup⟩ := regroup_spares ((t.mapClaims f).mapClaims fun d => if c.partner d then d.partnerFaulted else d)
  refine ⟨_, regrouped.trans ?_, sparesGroup.comp ((sparesFaulted_partner c).comp sparesColumn)⟩
  rw [mapClaims_mapClaims, mapClaims_mapClaims]
  rfl

/-- What a fault finding taken for a claim that can fault does: CLAIM_FAULT is latched, every record of the claim's number enters
FAULTED, and no record is renumbered (R42, R144). -/
theorem faultClaim_spec {c : ClaimRec} (can : c.canFault = true) (s : State) (k : FaultCause) :
    ∃ f, s.faultClaim c k = latch .claimFault (s.mapClaims f) ∧ (∀ x, (f x).number = x.number) ∧
      ∀ x, x.number = c.number → f x = x.fault k := by
  obtain ⟨f, held, spares⟩ := faultHolds_spares s (latch .claimFault (s.updClaim c.number fun x => x.fault k)) c
  refine ⟨fun x => f (if x.number = c.number then x.fault k else x), ?_, fun x => (spares.number _).trans ?_, fun x same => ?_⟩
  · have able : s.faultClaim c k = _ := if_pos can
    exact (able.trans held).trans (congrArg (latch .claimFault) (mapClaims_mapClaims ..))
  · split <;> rfl
  · show f (if x.number = c.number then x.fault k else x) = _
    rw [if_pos same, spares.faulted _ rfl]

theorem faultClaim_claim? {s : State} {c x : ClaimRec} (can : c.canFault = true) (found : s.claim? c.number = some x) (k : FaultCause) :
    (s.faultClaim c k).claim? c.number = some (x.fault k) := by
  obtain ⟨f, faulted, number, enters⟩ := faultClaim_spec can s k
  rw [faulted]
  refine (claim?_mapClaims s f number c.number).trans ?_
  rw [found, Option.map_some, enters x (mem_of_claim? found).2]

theorem faultClaim_attention {c : ClaimRec} (can : c.canFault = true) (s : State) (k : FaultCause) :
    (s.faultClaim c k).attention = s.attention.latchTimes .claimFault 1 := by
  obtain ⟨f, faulted, -, -⟩ := faultClaim_spec can s k
  rw [faulted]
  rfl

end Sys2Proof.Machine
end

section
/-! PROOF. A millisecond on an empty queue (O2), and each timer run out (O53). -/

namespace Sys2Proof.Machine

/-! ## A millisecond (log entry 2) -/

theorem step_of_empty {s : State} (empty : s.pending = []) : step s = .next (s.elapse 1) := by
  unfold step
  rw [empty]

/-- Settles O2: the step is a millisecond at every running timer, table by table. -/
theorem emptyQueuePassesOneMillisecond : Obligations.EmptyQueuePassesOneMillisecond :=
  fun s empty => ⟨s.elapse 1, step_of_empty empty, elapse_frame 1 s, rfl, elapse_link 1 s, elapse_group? 1 s, rfl⟩

/-! ## The timers of a claim (R131, R134, R140) -/

theorem stallExpiry_eq {s : State} {n e : Nat} {c : ClaimRec} (found : s.claim? n = some c) (moving : c.state = .moving)
    (runs : c.sup.bind Supervision.stall = some e) : s.stallExpiry n = (s.elapse (s.stallWindow c.mover - e)).faultClaim c .stall := by
  have elapsed : c.stallElapsed = some e := (if_pos moving).trans runs
  simp only [State.stallExpiry, found, elapsed]

theorem stallTimer_settled (n e : Nat) (c : ClaimRec) (s : State) (found : s.claim? n = some c) (moving : c.state = .moving)
    (runs : c.sup.bind Supervision.stall = some e) :
    ∃ t d, exec (.stallTimerExpiry n) s = .next t ∧
      t = { s.elapse (s.stallWindow c.mover - e) with claims := t.claims, attention := t.attention } ∧
      t.claim? n = some d ∧ d.state = .faulted ∧ d.cause = some .stall ∧ d.span = c.span ∧
      t.attention = s.attention.latchTimes .claimFault 1 := by
  have can : c.canFault = true := by simp [ClaimRec.canFault, ClaimRec.live, moving]
  obtain rfl : c.number = n := (mem_of_claim? found).2
  have later := elapse_claim? (s.stallWindow c.mover - e) s c.number
  rw [found, Option.map_some] at later
  exact ⟨_, _, congrArg Host.Outcome.next (stallExpiry_eq found moving runs), faultClaim_frame _ c .stall,
    faultClaim_claim? can later .stall, rfl, rfl, rfl, faultClaim_attention can _ .stall⟩

/-- A claim record whose stop window is marked run out (R132). -/
def ClaimRec.runOut (c : ClaimRec) : ClaimRec := c.updSup fun y => { y with stopWindow := .runOut }

theorem stopRunOut_eq {s : State} {n e : Nat} {c : ClaimRec} (found : s.claim? n = some c)
    (watched : c.state = .held ∨ c.state = .retiring) (runs : c.sup.map Supervision.stopWindow = some (.running e)) :
    s.stopRunOut n =
      if c.someRunning then ((s.elapse (s.stopLength c.mover - e)).updClaim n ClaimRec.runOut).faultClaim c .noStop
      else (s.elapse (s.stopLength c.mover - e)).updClaim n ClaimRec.runOut := by
  have elapsed : c.stopElapsed = some e := by
    unfold ClaimRec.stopElapsed
    rw [runs]
    exact if_pos watched
  simp only [State.stopRunOut, found, elapsed]
  rfl

/-- A claim found by its number, changed. -/
theorem updClaim_claim? {s : State} {n : Nat} {c : ClaimRec} {f : ClaimRec → ClaimRec} (number : ∀ x, (f x).number = x.number)
    (found : s.claim? n = some c) : (s.updClaim n f).claim? n = some (f c) := by
  unfold State.updClaim
  rw [claim?_mapClaims _ _ (fun x => ?_), found, Option.map_some, if_pos (mem_of_claim? found).2]
  split
  · exact number x
  · rfl

theorem stopWindow_settled (n e : Nat) (c : ClaimRec) (s : State) (found : s.claim? n = some c)
    (watched : c.state = .held ∨ c.state = .retiring) (runs : c.sup.map Supervision.stopWindow = some (.running e)) :
    ∃ t d, exec (.stopWindowRunOut n) s = .next t ∧
      t = { s.elapse (s.stopLength c.mover - e) with claims := t.claims, attention := t.attention } ∧ t.claim? n = some d ∧
      if c.someRunning = true then d.state = .faulted ∧ d.cause = some .noStop ∧ t.attention = s.attention.latchTimes .claimFault 1
      else d.state = c.state ∧ d.sup.map Supervision.stopWindow = some .runOut ∧ t.attention = s.attention := by
  obtain rfl : c.number = n := (mem_of_claim? found).2
  have later := elapse_claim? (s.stopLength c.mover - e) s c.number
  rw [found, Option.map_some] at later
  have marked := updClaim_claim? (f := ClaimRec.runOut) (fun _ => rfl) later
  have ran := stopRunOut_eq found watched runs
  by_cases running : c.someRunning = true
  · have can : c.canFault = true := by rcases watched with h | h <;> simp [ClaimRec.canFault, ClaimRec.live, h]
    rw [if_pos running] at ran
    simp only [if_pos running]
    refine ⟨_, _, congrArg Host.Outcome.next ran, ?_, faultClaim_claim? can marked .noStop, rfl, rfl,
      faultClaim_attention can _ .noStop⟩
    rw [faultClaim_frame]
    rfl
  · rw [if_neg running] at ran
    simp only [if_neg running]
    refine ⟨_, _, congrArg Host.Outcome.next ran, rfl, marked, rfl, ?_, rfl⟩
    obtain ⟨y, sup, -⟩ := Option.map_eq_some_iff.1 runs
    simp [ClaimRec.runOut, ClaimRec.updSup, ClaimRec.elapse, sup]

theorem deadlineExpiry_eq {s : State} {n r : Nat} {c : ClaimRec} (found : s.claim? n = some c)
    (runs : c.sup.map Supervision.deadline = some (.running r)) :
    s.deadlineExpiry n = latch .late ((s.elapse r).updClaim n ClaimRec.markLate) := by
  have left : c.deadlineLeft = some r := by
    unfold ClaimRec.deadlineLeft
    rw [runs]
  simp only [State.deadlineExpiry, found, left]

theorem deadline_settled (n r : Nat) (c : ClaimRec) (s : State) (found : s.claim? n = some c)
    (runs : c.sup.map Supervision.deadline = some (.running r)) :
    ∃ t d, exec (.deadlineExpiry n) s = .next t ∧
      t = { s.elapse r with claims := t.claims, attention := s.attention.latchTimes .late 1 } ∧ t.claim? n = some d ∧
      d.late = true ∧ d.state = c.state ∧ d.sup.map Supervision.deadline = some .absent := by
  have later := elapse_claim? r s n
  rw [found, Option.map_some] at later
  refine ⟨_, _, congrArg Host.Outcome.next (deadlineExpiry_eq found runs), rfl,
    updClaim_claim? (f := ClaimRec.markLate) (fun _ => rfl) later, rfl, rfl, ?_⟩
  obtain ⟨y, sup, -⟩ := Option.map_eq_some_iff.1 runs
  simp [ClaimRec.markLate, ClaimRec.elapse, sup]

/-! ## The wait limits (R74, R85) -/

theorem removeWaiting_claim? (s : State) (c : ClaimRec) : (s.removeWaiting c).claim? c.number = none :=
  List.find?_eq_none.2 fun d mem => by
    rw [removeWaiting_claims, List.mem_filter] at mem
    simpa using mem.2

/-- The detach notice changes no set record but for its claim field (R7). -/
theorem removeWaiting_setRec (s : State) (c : ClaimRec) (k : Nat) :
    (s.removeWaiting c).setRec k = { s.setRec k with claim := ((s.removeWaiting c).setRec k).claim } := by
  have detached : (s.removeWaiting c).setRec k = _ := setRec_setClaimField (s.dropClaim c.number) c.mover none k
  rw [detached]
  split <;> rfl

theorem removeMembers_setRec (s : State) (ns : List Nat) (k : Nat) :
    (s.removeMembers ns).setRec k = { s.setRec k with claim := ((s.removeMembers ns).setRec k).claim } := by
  induction ns generalizing s with
  | nil => rfl
  | cons n ns ih =>
    have first : (s.removeMembers [n]).setRec k = { s.setRec k with claim := ((s.removeMembers [n]).setRec k).claim } := by
      unfold State.removeMembers
      rw [List.foldl_cons, List.foldl_nil]
      split
      · exact removeWaiting_setRec s _ k
      · rfl
    rw [removeMembers_cons, ih, first]

theorem waitExpiry_eq {s : State} {n e : Nat} {c : ClaimRec} (found : s.claim? n = some c) (waits : c.state = .waiting)
    (runs : c.waitTimer = some e) :
    s.waitExpiry n = latch .waitExpired ((s.elapse (100 * c.waitLimit.getD 0 - e)).removeWaiting c) := by
  have elapsed : c.waitElapsed = some e := (if_pos waits).trans runs
  simp only [State.waitExpiry, found, elapsed]

theorem waitLimit_settled (n e : Nat) (c : ClaimRec) (s : State) (found : s.claim? n = some c) (waits : c.state = .waiting)
    (runs : c.waitTimer = some e) :
    ∃ t, exec (.waitLimitExpiry n) s = .next t ∧
      t = { s.elapse (100 * c.waitLimit.getD 0 - e) with
        claims := t.claims, sets := t.sets, bonds := t.bonds, attention := s.attention.latchTimes .waitExpired 1 } ∧
      t.claim? n = none ∧ ∀ k, t.setRec k = { s.setRec k with claim := (t.setRec k).claim } := by
  obtain rfl : c.number = n := (mem_of_claim? found).2
  refine ⟨_, congrArg Host.Outcome.next (waitExpiry_eq found waits runs), ?_, removeWaiting_claim? _ c,
    fun k => removeWaiting_setRec _ c k⟩
  rw [removeWaiting_frame]
  rfl

theorem groupExpiry_eq {s : State} {g e : Nat} {x : GroupRec} (found : s.group? g = some x) (ready : x.state = .ready)
    (runs : x.timer = some e) :
    s.groupExpiry g = latch .waitExpired ((s.elapse (100 * x.waitLimit.getD 0 - e)).dissolveGroup g x) := by
  have elapsed : x.waitElapsed = some e := (if_pos ready).trans runs
  simp only [State.groupExpiry, found, elapsed]

theorem groupWaitLimit_settled (g e : Nat) (x : GroupRec) (s : State) (found : s.group? g = some x) (ready : x.state = .ready)
    (runs : x.timer = some e) :
    ∃ t, exec (.groupWaitLimitExpiry g) s = .next t ∧
      t = { s.elapse (100 * x.waitLimit.getD 0 - e) with
        claims := t.claims, sets := t.sets, bonds := t.bonds, groups := t.groups
        attention := s.attention.latchTimes .waitExpired 1 } ∧
      t.group? g = none ∧ (∀ n ∈ x.members, t.claim? n = none) ∧
      ∀ k, t.setRec k = { s.setRec k with claim := (t.setRec k).claim } := by
  refine ⟨_, congrArg Host.Outcome.next (groupExpiry_eq found ready runs), ?_, dissolveGroup_group?_self _ (Tab.record?_range found) x,
    fun n member => dissolveGroup_claim?_member _ g member, fun k => removeMembers_setRec _ x.members k⟩
  rw [dissolveGroup_frame]
  rfl

/-! ## The channels' discrepancy (R155) -/

theorem discrepancy_settled (e : Nat) (s : State) (runs : s.stop.discrepancy = some e) :
    ∃ t, exec .discrepancyTimerExpiry s = .next t ∧
      t = { s.elapse (51 - e) with
        stop := { s.stop with mark := true, discrepancy := none }, attention := s.attention.latchTimes .discrepancy 1 } := by
  refine ⟨s.discrepancyExpiry, rfl, ?_⟩
  unfold State.discrepancyExpiry
  rw [runs]
  rfl

/-- Settles O53: each timer's expiry taken, and that time passes in any number of spans alike. -/
theorem timersRunOut : Obligations.TimersRunOut :=
  ⟨stallTimer_settled, stopWindow_settled, deadline_settled, waitLimit_settled, groupWaitLimit_settled, discrepancy_settled,
    fun a b s => ⟨s.elapse_zero, s.elapse_add a b⟩⟩

end Sys2Proof.Machine
end

section
/-! PROOF. O52 refuted: the group re-evaluation that follows a report can hold a MOVING claim whose members have all progressed. -/

namespace Sys2Proof.Machine

/-! ## A group whose HELD member carries GROUP alone and spans a column -/

/-- A set's rig entry and hang at station `a` of FB0, at a depth. -/
def plainSetup (a depth : Nat) : Setup :=
  { rig := { segment := .fb0, address := a, depth := depth, lower := 1000, upper := 18000, rated := 1200, stopMode := .auto
             stopConstant := 600, fixedAllowance := none, arrivalTol := 5, stallWindow := 2000 }
    hang := { top := 200, drop := 300, fore := 100, aft := 100, sway := 50, loadMin := 0, loadMax := 4000 } }

/-- The record of a set in a state at 2000 mm. -/
def plainSet (a depth : Nat) (st : SetState) (claim : Option Nat) : SetRec :=
  { SetRec.vacant with
    setup := some (plainSetup a depth), state := st, identityVerified := true, restPosition := some 2000
    lastReport := some { status := .ready, position := 2000, velocity := 0, load := 300 }, claim := claim }

/-- The station of set `n`, with its fresh flag set. -/
def freshStation (n : Nat) : Station := { Station.reset with set := some n, fresh := true }

/-- The claim of number `n` on set `n`, at depth `d`, from 2000 mm to 5000 mm, in group 1, with its member's report and reference. -/
def groupedClaim (n : Nat) (d : Int) (st : ClaimState) (r : Reasons) (ref : Option Nat) : ClaimRec :=
  { number := n, owner := .dl0, cls := .forShow, kind := .move, mover := .set n, cueTag := none, target := some 5000
    memberTargets := [(n, 5000)], requestedSpeed := some 1000, grantedSpeed := some 1000, reserves := none, starts := [(n, 2000)]
    span := some { depthLo := d - 150, depthHi := d + 150, heightLo := 1250, heightHi := 5650 }, state := st, reasons := r
    taken := true, keep := false, waitAllowed := false, waitLimit := none, deadline := none, late := false, group := some 1
    cause := none, waitTimer := none
    sup := some { members := [{ set := n, segment := .fb0, address := n, takeCount := 0, takenMark := true, fresh := none
                                lastPosition := 2000, stallRef := ref }]
                  take := .stopped, stall := ref, stopWindow := .stopped, deadline := .absent } }

/-- The report of set 1 on its way, at 2100 mm. -/
def movingReport : Report := { status := .running, position := 2100, velocity := 300, load := 300 }

/-- That report in its hand-off. -/
def movingNote : TravelNote :=
  { set := 1, address := 1, report := some movingReport, miss := none, echo := false, toggle := false
    content := { command := .go, target := 5000, cap := 1000 } }

/-- Claim 1 of the group, MOVING and past its last stall reference by 10 mm at the report. -/
def movingMember : ClaimRec := groupedClaim 1 1000 .moving Reasons.empty (some 2910)

/-- Claim 2 of the group, HELD with GROUP alone though no member is stopping, which no law of the Claim or Group Table rules out. -/
def heldMember : ClaimRec := groupedClaim 2 5000 .held { Reasons.empty with group := true } none

/-- Group 1, GRANTED, of claims 1 and 2. -/
def grantedPair : GroupRec :=
  { owner := .dl0, cls := .forShow, sync := false, expected := 2, members := [1, 2], waitLimit := none, state := .granted, timer := none }

/-- Sets 1 and 2 ENGAGED under the two claims, and set 3 BARRED, whose column the span of claim 2 meets; the report of set 1 waits. -/
def heldAtColumn : State :=
  { State.reset with
    sets := Tab.put (Tab.put (Tab.put State.reset.sets 1 (plainSet 1 1000 .engaged (some 1))) 2 (plainSet 2 5000 .engaged (some 2)))
      3 { plainSet 3 5200 .barred none with restPosition := none, barredCause := some .drift }
    claims := [movingMember, heldMember]
    groups := Tab.put State.reset.groups 1 (some grantedPair)
    buses := { State.reset.buses with fb0 := { Bus.reset with
      state := .polling
      stations := Tab.put (Tab.put (Tab.put Bus.reset.stations 1 (freshStation 1)) 2 (freshStation 2)) 3 (freshStation 3)
      tmOutcomes := [movingNote] } }
    stop := { State.reset.stop with state := .run } }

/-! ## Its laws -/

theorem mem_heldAtColumn {c : ClaimRec} : c ∈ heldAtColumn.claims ↔ c = movingMember ∨ c = heldMember := by
  simp [heldAtColumn]

theorem heldAtColumn_group? (g : Nat) : heldAtColumn.group? g = if g = 1 then some grantedPair else none := by
  have unused : Tab.record? State.reset.groups g = none := Tab.record?_replicate 24 g
  have written : heldAtColumn.group? g = _ := Tab.record?_put State.reset.groups 1 g (some grantedPair)
  rw [written, unused]
  exact if_congr (and_iff_left ⟨Nat.le_refl 1, by decide⟩) rfl rfl

theorem heldAtColumn_claimLaws : ClaimLaws heldAtColumn := by
  refine ⟨⟨by decide, by decide⟩, fun c mem => ?_, fun c _ => ⟨absurd rfl, nofun⟩, ⟨fun _ => ⟨rfl, rfl⟩, nofun⟩,
    fun g x found waits => ?_, fun c mem waits => ?_⟩
  · obtain rfl | rfl := mem_heldAtColumn.1 mem <;> decide
  · rw [heldAtColumn_group?] at found
    split at found
    · exact absurd (congrArg GroupRec.state (Option.some.inj found)).symm waits
    · cases found
  · obtain rfl | rfl := mem_heldAtColumn.1 mem <;> cases waits

theorem heldAtColumn_groupLaws : GroupLaws heldAtColumn := by
  have quiet : ∀ c ∈ heldAtColumn.claims, ¬ Stopping c := fun c mem => by
    unfold Stopping
    obtain rfl | rfl := mem_heldAtColumn.1 mem <;> decide
  refine ⟨fun c _ d mem g _ _ _ stopping => absurd stopping (quiet d mem), fun c mem g grouped => ?_⟩
  obtain rfl | rfl := mem_heldAtColumn.1 mem
  all_goals
    obtain rfl : 1 = g := Option.some.inj grouped
    exact ⟨nofun, grantedPair, heldAtColumn_group? 1, by decide, by decide⟩

/-! ## Its report -/

/-- The group re-evaluation after the report (R90): claim 2 loses GROUP and takes COLUMN as it is tested for leaving HELD (R38), so claim 1
takes GROUP and is HELD. -/
theorem heldAtColumn_reported :
    ((heldAtColumn.takeTravel .fb0).claim? 2).map ClaimRec.reasons = some { Reasons.empty with column := true } ∧
      ((heldAtColumn.takeTravel .fb0).claim? 1).map ClaimRec.state = some .held := by decide +kernel

/-- Refutes O52: in `heldAtColumn` every member of claim 1 has progressed, but the group re-evaluation after the report gives claim 2
COLUMN, and then claim 1 GROUP, so that claim 1 is HELD where the stall progress clause (R130) has it MOVING. -/
theorem not_travelSupervised : ¬ Obligations.TravelSupervised := by
  rintro ⟨-, -, -, reports, -⟩
  obtain ⟨t, taken, -, -, -, -, supervised⟩ := reports .fb0 movingNote [] movingMember (movingMember.positioned 1 movingReport true)
    (plainSetup 1 1000) movingReport true true heldAtColumn rfl rfl (by decide) (by decide) (by decide +kernel) (by decide +kernel) nofun
    heldAtColumn_claimLaws (by simp only [true_iff]; exact .inl (by decide +kernel)) (by decide) rfl
  obtain ⟨-, -, -, -, progresses, -⟩ := supervised (by decide +kernel)
  have moves := progresses rfl heldAtColumn_groupLaws (by decide +kernel) (by decide +kernel) (by decide +kernel)
  obtain rfl : heldAtColumn.takeTravel .fb0 = t := Host.Outcome.next.inj taken
  obtain ⟨-, held⟩ := heldAtColumn_reported
  rw [show (1 : Nat) = movingMember.number from rfl, moves] at held
  exact absurd held (by decide)

end Sys2Proof.Machine
end

section
/-! SUPPORT. What the Stop Controller's steps rest on: a priority request taken, the waits cancelled at an entry to STOPPED, and the entry itself (R156). -/

namespace Sys2Proof.Machine

/-! ## A priority request that can be taken -/

theorem canAnswer_of_holdDesk {s : State} {l : Link} (desk : HoldDesk s l) : (s.link l).canAnswer = true := by
  obtain ⟨full | hold, empty⟩ := desk
  · simp [LinkRec.canAnswer, full, empty]
  · simp [LinkRec.canAnswer, hold, empty]

theorem permits_of_holdDesk {s : State} {l : Link} {k : Nat} (desk : HoldDesk s l) (priority : k ∈ [2, 3, 4]) :
    (s.link l).role.permits k = true := by
  obtain ⟨full | hold, -⟩ := desk
  · rw [full, Role.permits]
  · rw [hold, Role.permits, decide_eq_true priority, Bool.or_true]

/-- A STOP, HOLD ALL or HOLD CLAIM in good form is taken by its owner and its reply placed in the priority response slot. -/
theorem takePriority_hold {s : State} {l : Link} {r : Request} (tag : Word16) (desk : HoldDesk s l) (priority : kindOf r ∈ [2, 3, 4])
    (form : formOk r = true) : takePriority l tag r s = slotReply l (byteOf (kindOf r)) tag false (serve l r s) := by
  simp only [takePriority, answer, canAnswer_of_holdDesk desk, permits_of_holdDesk desk priority, form, if_true, Bool.not_true,
    Bool.false_eq_true, if_false]

/-- The priority reply to an owner's step that leaves the links alone. -/
theorem answeredNow_slotReply {s u : State} (l : Link) (k : Nat) (tag : Word16) (y : Reply) (links : u.links = s.links) :
    AnsweredNow s (slotReply l (byteOf k) tag false (u, y)) l k tag y := by
  unfold AnsweredNow
  rw [← links, ← link_congr links l]
  rfl

/-- The priority reply to an owner's step that leaves every record alone. -/
theorem answerOnlyNow_slotReply (s : State) (l : Link) (k : Nat) (tag : Word16) (y : Reply) :
    AnswerOnlyNow s (slotReply l (byteOf k) tag false (s, y)) l k tag y :=
  ⟨rfl, answeredNow_slotReply l k tag y rfl⟩

/-! ## WAITING claims removed (R75) -/

theorem foldl_removeWaiting_frame (cs : List ClaimRec) (s : State) : cs.foldl State.removeWaiting s =
    { s with
      claims := (cs.foldl State.removeWaiting s).claims, sets := (cs.foldl State.removeWaiting s).sets
      bonds := (cs.foldl State.removeWaiting s).bonds } := by
  induction cs generalizing s with
  | nil => rfl
  | cons c cs ih => rw [List.foldl_cons, ih, removeWaiting_frame]

theorem foldl_removeWaiting_claims (cs : List ClaimRec) (s : State) :
    (cs.foldl State.removeWaiting s).claims = s.claims.filter fun d => decide (d.number ∉ cs.map ClaimRec.number) := by
  induction cs generalizing s with
  | nil => simp
  | cons c cs ih =>
    rw [List.foldl_cons, ih, removeWaiting_claims, List.filter_filter]
    refine List.filter_congr fun d _ => ?_
    simp [Bool.and_comm]

theorem foldl_removeWaiting_setRec (cs : List ClaimRec) (s : State) (k : Nat) :
    (cs.foldl State.removeWaiting s).setRec k =
      { s.setRec k with claim := ((cs.foldl State.removeWaiting s).setRec k).claim } := by
  induction cs generalizing s with
  | nil => rfl
  | cons c cs ih => rw [List.foldl_cons, ih, removeWaiting_setRec]

/-! ## Groups freed (R86) -/

/-- The groups of a list freed. -/
def State.freeGroups (s : State) (gs : List Nat) : State := gs.foldl (fun t g => t.putGroup g none) s

theorem freeGroups_frame (s : State) (gs : List Nat) : s.freeGroups gs = { s with groups := (s.freeGroups gs).groups } := by
  induction gs generalizing s with
  | nil => rfl
  | cons g gs ih => exact ih (s.putGroup g none)

theorem freeGroups_group? (s : State) (gs : List Nat) (k : Nat) : (s.freeGroups gs).group? k = if k ∈ gs then none else s.group? k := by
  induction gs generalizing s with
  | nil => rfl
  | cons g gs ih =>
    have freed : (s.putGroup g none).group? k = if k = g then none else s.group? k := by
      by_cases same : k = g
      · subst same
        rw [if_pos rfl, group?_putGroup]
        split
        · rfl
        · rename_i out
          exact Option.eq_none_iff_forall_not_mem.2 fun x found => out ⟨rfl, Tab.record?_range found⟩
      · rw [if_neg same, group?_putGroup_other s same]
    rw [show (s.freeGroups (g :: gs)).group? k = _ from ih (s.putGroup g none), freed]
    simp only [List.mem_cons, ite_or]
    split <;> split <;> rfl

theorem mem_openGroups {s : State} {g : Nat} : g ∈ s.openGroups ↔ ∃ x, s.group? g = some x ∧ x.state ≠ .granted := by
  simp only [State.openGroups, List.mem_filter, Tab.mem_numbers, Option.any_eq_true, decide_eq_true_eq]
  exact ⟨fun ⟨_, x, found, waits⟩ => ⟨x, found, waits⟩, fun ⟨x, found, waits⟩ => ⟨Tab.record?_range found, x, found, waits⟩⟩

/-! ## The waits cancelled (R75, R86) -/

theorem mem_waitingClaims {s : State} {c : ClaimRec} : c ∈ s.waitingClaims ↔ c ∈ s.claims ∧ c.state = .waiting := by
  simp [State.waitingClaims]

/-- What an entry to STOPPED tests before it latches WAIT_CANCELLED. -/
theorem anyWait_iff (s : State) : (!s.waitingClaims.isEmpty || !s.openGroups.isEmpty) = true ↔ WaitExists s := by
  rw [Bool.or_eq_true, Bool.not_eq_true', Bool.not_eq_true', List.isEmpty_eq_false_iff_exists_mem, List.isEmpty_eq_false_iff_exists_mem]
  exact or_congr (exists_congr fun _ => mem_waitingClaims) (exists_congr fun _ => mem_openGroups)

/-- The records with every wait cancelled, before WAIT_CANCELLED is latched. -/
def State.waitsGone (s : State) : State := (s.waitingClaims.foldl State.removeWaiting s).freeGroups s.openGroups

theorem cancelWaits_eq (s : State) :
    s.cancelWaits = latchIf (!s.waitingClaims.isEmpty || !s.openGroups.isEmpty) .waitCancelled s.waitsGone := rfl

theorem waitsGone_frame (s : State) : s.waitsGone = { s with
    claims := s.waitsGone.claims, sets := s.waitsGone.sets, bonds := s.waitsGone.bonds, groups := s.waitsGone.groups } := by
  rw [State.waitsGone, freeGroups_frame, foldl_removeWaiting_frame]

theorem cancelWaits_attention (s : State) :
    (WaitExists s → s.cancelWaits.attention = s.attention.latchTimes .waitCancelled 1) ∧
      (¬ WaitExists s → s.cancelWaits.attention = s.attention) := by
  rw [cancelWaits_eq, waitsGone_frame, ← anyWait_iff]
  refine ⟨fun waits => ?_, fun none => ?_⟩
  · rw [waits]
    rfl
  · rw [Bool.eq_false_of_not_eq_true none]
    rfl

theorem cancelWaits_frame (s : State) : s.cancelWaits = { s with
    claims := s.cancelWaits.claims, sets := s.cancelWaits.sets, bonds := s.cancelWaits.bonds, groups := s.cancelWaits.groups
    attention := s.cancelWaits.attention } := by
  rw [cancelWaits_eq, latchIf_frame, waitsGone_frame]

theorem cancelWaits_group? (s : State) (g : Nat) :
    s.cancelWaits.group? g = (s.group? g).filter fun x => decide (x.state = .granted) := by
  have same : s.cancelWaits.group? g = s.waitsGone.group? g := by rw [cancelWaits_eq, latchIf_frame]; rfl
  have kept : (s.waitingClaims.foldl State.removeWaiting s).group? g = s.group? g := by rw [foldl_removeWaiting_frame]; rfl
  rw [same, State.waitsGone, freeGroups_group?, kept]
  cases found : s.group? g with
  | none => exact ite_self none
  | some x =>
    rw [Option.filter_some]
    by_cases granted : x.state = .granted
    · simp [mem_openGroups, found, granted]
    · simp [mem_openGroups, found, granted]

theorem cancelWaits_setRec (s : State) (n : Nat) :
    s.cancelWaits.setRec n = { s.setRec n with claim := (s.cancelWaits.setRec n).claim } := by
  have same : s.cancelWaits.setRec n = (s.waitingClaims.foldl State.removeWaiting s).setRec n := by
    rw [cancelWaits_eq, latchIf_frame, State.waitsGone, freeGroups_frame]
    rfl
  rw [same, foldl_removeWaiting_setRec]

theorem cancelWaits_claims (s : State) :
    s.cancelWaits.claims = s.claims.filter fun d => decide (d.number ∉ s.waitingClaims.map ClaimRec.number) := by
  rw [← foldl_removeWaiting_claims, cancelWaits_eq, latchIf_frame, State.waitsGone, freeGroups_frame]

/-- No claim that waits is left, and every claim left was there. -/
theorem not_waiting_of_mem_cancelWaits {s : State} {c : ClaimRec} (mem : c ∈ s.cancelWaits.claims) :
    c ∈ s.claims ∧ c.state ≠ .waiting := by
  rw [cancelWaits_claims, List.mem_filter, decide_eq_true_eq] at mem
  obtain ⟨mem, spared⟩ := mem
  exact ⟨mem, fun waits => spared (List.mem_map_of_mem (mem_waitingClaims.2 ⟨mem, waits⟩))⟩

/-- With distinct numbers a claim that does not wait is found as it was. -/
theorem cancelWaits_claim? {s : State} (distinct : (s.claims.map ClaimRec.number).Nodup) {c : ClaimRec} (mem : c ∈ s.claims)
    (idle : c.state ≠ .waiting) : s.cancelWaits.claim? c.number = some c := by
  have claims := cancelWaits_claims s
  have left : c ∈ s.cancelWaits.claims := by
    rw [claims, List.mem_filter, decide_eq_true_eq]
    refine ⟨mem, fun named => ?_⟩
    obtain ⟨d, waiting, number⟩ := List.mem_map.1 named
    obtain ⟨there, waits⟩ := mem_waitingClaims.1 waiting
    obtain rfl : c = d := List.inj_on_of_nodup_map distinct mem there number.symm
    exact idle waits
  refine claim?_of_mem ?_ left
  rw [claims]
  exact distinct.sublist (List.filter_sublist.map _)

/-! ## The entry to STOPPED (R156) -/

theorem firm_of_estop {r : Reasons} (carried : r.estop = true) : r.firm = true :=
  decide_eq_true fun empty => Bool.false_ne_true ((congrArg Reasons.estop empty).symm.trans carried)

/-- A re-evaluation of COLUMN and GROUP holds keeps ESTOP. -/
theorem Reheld.estop {c d : ClaimRec} (h : Reheld c d) : d.reasons.estop = c.reasons.estop :=
  (congrArg Reasons.estop h.firm :)

/-- The stop state STOPPED and every claim in GRANTED, MOVING or HELD held with ESTOP: steps 1 and 2 of R156. -/
def State.stopHeld (s : State) : State := (s.updStop fun x => { x with state := .stopped }).mapClaims fun c => c.hold Reasons.addEstop

theorem enterStopped_eq (s : State) : ∃ g : ClaimRec → ClaimRec,
    s.enterStopped = latch .stop (s.stopHeld.cancelWaits.mapClaims g) ∧ ∀ c, Reheld c (g c) := by
  obtain ⟨g, regrouped, reheld⟩ := regroup_reheld s.stopHeld.cancelWaits
  exact ⟨g, congrArg (latch .stop) regrouped, reheld⟩

theorem enterStopped_stop (s : State) : s.enterStopped.stop = { s.stop with state := .stopped } := by
  obtain ⟨g, entered, -⟩ := enterStopped_eq s
  rw [entered, cancelWaits_frame]
  rfl

/-- A claim held with ESTOP and then re-evaluated with the groups. -/
theorem stopHeld_reheld {c d : ClaimRec} (reheld : Reheld (c.hold Reasons.addEstop) d) :
    if c.holdable then d.state = .held ∧ d.reasons.estop = true else d = c := by
  split
  · rename_i holdable
    obtain ⟨held, reasons, -, -⟩ := hold_of_holdable Reasons.addEstop holdable
    have carried : (c.hold Reasons.addEstop).reasons.estop = true := by
      rw [reasons]
      rfl
    exact ⟨reheld.held held (firm_of_estop carried), reheld.estop.trans carried⟩
  · rename_i idle
    have idle := Bool.eq_false_of_not_eq_true idle
    have same := hold_of_not_holdable Reasons.addEstop idle
    exact (reheld.idle (same.symm ▸ idle)).trans same

theorem enterStopped_claims {s : State} {d : ClaimRec} (mem : d ∈ s.enterStopped.claims) :
    d.state ≠ .waiting ∧ d.running = false ∧ (d.state = .held → d.reasons.estop = true) := by
  obtain ⟨g, entered, reheld⟩ := enterStopped_eq s
  rw [entered] at mem
  obtain ⟨e, left, rfl⟩ := List.mem_map.1 mem
  obtain ⟨there, idle⟩ := not_waiting_of_mem_cancelWaits left
  obtain ⟨c, -, rfl⟩ := List.mem_map.1 there
  refine ⟨fun waits => idle ((reheld _).waiting.1 waits), ?_⟩
  have after := stopHeld_reheld (reheld (c.hold Reasons.addEstop))
  split at after
  · obtain ⟨held, carried⟩ := after
    exact ⟨not_running_of_held held, fun _ => carried⟩
  · rename_i notHoldable
    obtain ⟨still, notHeld⟩ := not_running_of_not_holdable (Bool.eq_false_of_not_eq_true notHoldable)
    rw [after]
    exact ⟨still, fun held => absurd held notHeld⟩

theorem hold_waiting_iff (add : Reasons → Reasons) (c : ClaimRec) : (c.hold add).state = .waiting ↔ c.state = .waiting := by
  by_cases holdable : c.holdable = true
  · obtain ⟨held, -⟩ := hold_of_holdable add holdable
    have states := (holdable_iff c).1 holdable
    simp only [held, reduceCtorEq, false_iff]
    intro waits
    simp [waits] at states
  · rw [hold_of_not_holdable add (Bool.eq_false_of_not_eq_true holdable)]

theorem enterStopped_claim? {s : State} (distinct : (s.claims.map ClaimRec.number).Nodup) {c : ClaimRec} (mem : c ∈ s.claims)
    (idle : c.state ≠ .waiting) : ∃ d, s.enterStopped.claim? c.number = some d ∧ Reheld (c.hold Reasons.addEstop) d := by
  obtain ⟨g, entered, reheld⟩ := enterStopped_eq s
  refine ⟨g (c.hold Reasons.addEstop), ?_, reheld _⟩
  have numbers : s.stopHeld.claims.map ClaimRec.number = s.claims.map ClaimRec.number :=
    numbers_mapClaims _ _ (hold_number Reasons.addEstop)
  have found := cancelWaits_claim? (numbers ▸ distinct) (List.mem_map_of_mem mem : c.hold Reasons.addEstop ∈ s.stopHeld.claims)
    (mt (hold_waiting_iff _ c).1 idle)
  rw [hold_number] at found
  rw [entered]
  refine (claim?_mapClaims _ g (fun c => (reheld c).number) c.number).trans ?_
  rw [found, Option.map_some]

theorem waitExists_stopHeld (s : State) : WaitExists s.stopHeld ↔ WaitExists s := by
  refine or_congr ⟨?_, ?_⟩ Iff.rfl
  · rintro ⟨d, mem, waits⟩
    obtain ⟨c, there, rfl⟩ := List.mem_map.1 mem
    exact ⟨c, there, (hold_waiting_iff _ c).1 waits⟩
  · rintro ⟨c, mem, waits⟩
    exact ⟨_, List.mem_map_of_mem mem, (hold_waiting_iff Reasons.addEstop c).2 waits⟩

theorem enterStopped_frame (s : State) : s.enterStopped = { s with
    sets := s.enterStopped.sets, bonds := s.enterStopped.bonds, claims := s.enterStopped.claims, groups := s.enterStopped.groups
    stop := s.enterStopped.stop, attention := s.enterStopped.attention } := by
  obtain ⟨g, entered, -⟩ := enterStopped_eq s
  rw [entered, cancelWaits_frame]
  rfl

theorem enterStopped_entered (s : State) : StopEntered s s.enterStopped := by
  obtain ⟨g, entered, reheld⟩ := enterStopped_eq s
  obtain ⟨waits, none⟩ := cancelWaits_attention s.stopHeld
  rw [waitExists_stopHeld] at waits none
  refine ⟨?_, fun c mem => (enterStopped_claims mem).1, fun c mem => (enterStopped_claims mem).2, fun distinct c mem idle => ?_,
    fun n => ?_, fun n => ?_, fun exist => ?_, fun absent => ?_⟩
  · rw [enterStopped_frame]
  · obtain ⟨d, found, reheld⟩ := enterStopped_claim? distinct.1 mem idle
    refine ⟨d, found, ?_⟩
    have after := stopHeld_reheld reheld
    split at after
    · rename_i holdable
      rw [if_pos holdable]
      exact after.1
    · rename_i notHoldable
      rw [if_neg notHoldable]
      exact after
  · rw [entered]
    exact cancelWaits_group? s.stopHeld n
  · rw [entered]
    exact cancelWaits_setRec s.stopHeld n
  · rw [entered]
    exact congrArg (AttentionRec.latchTimes · .stop 1) (waits exist)
  · rw [entered]
    exact congrArg (AttentionRec.latchTimes · .stop 1) (none absent)

/-- What an entry to STOPPED does is said of every record but that of the stop and the links, so another stop record before or after,
and other links after, make no difference. -/
theorem StopEntered.congr {s u v t : State} (h : StopEntered u v) (before : u = { s with stop := u.stop })
    (after : t = { v with stop := t.stop, links := t.links }) : StopEntered s t := by
  obtain ⟨frame, still⟩ := h
  rw [before] at frame still
  rw [after]
  refine ⟨?_, still⟩
  rw [frame]

end Sys2Proof.Machine
end

section
/-! PROOF. STOP (O27), the emergency-stop channels (O28), RELEASE ALL (O29) and RESUME (O30). -/

namespace Sys2Proof.Machine

/-! ## STOP (R159) -/

theorem serveStop_of_stopped {s : State} (stopped : s.stop.state = .stopped) : serveStop s = (s, Reply.of .done) := if_pos stopped

/-- Outside STOPPED, with both channels INACTIVE, STOP enters STOPPED and then LATCHED. -/
theorem serveStop_of_clear {s : State} (outside : s.stop.state ≠ .stopped) (clear : s.stop.clear = true) :
    serveStop s = (s.enterStopped.enterLatched, Reply.of .done) := by
  have cleared : s.enterStopped.stop.clear = true := by
    rw [enterStopped_stop]
    exact clear
  unfold serveStop
  rw [if_neg outside]
  dsimp only
  rw [if_pos cleared]

theorem exec_stop {l : Link} {s u : State} {y : Reply} (tag : Word16) (desk : HoldDesk s l) (step : serveStop s = (u, y)) :
    exec (.stop l tag) s = .next (slotReply l (byteOf 2) tag false (u, y)) := by
  rw [← step]
  exact congrArg Host.Outcome.next (takePriority_hold (r := .stop) tag desk (by decide) rfl)

/-- Settles O27: STOP outside STOPPED, by the entry to STOPPED and the one to LATCHED, and STOP in STOPPED. -/
theorem stopTaken : Obligations.StopTaken := by
  refine ⟨fun l tag s desk outside clearA clearB => ?_, fun l tag s desk stopped => ?_⟩
  · have clear : s.stop.clear = true := by simp [StopRec.clear, clearA, clearB]
    refine ⟨_, exec_stop tag desk (serveStop_of_clear outside clear), (enterStopped_entered s).congr rfl rfl, ?_, ?_⟩
    · exact congrArg (fun x : StopRec => { x with state := .latched }) (enterStopped_stop s)
    · refine answeredNow_slotReply l 2 tag _ ?_
      exact (congrArg State.links (enterStopped_frame s)).trans rfl
  · exact ⟨_, exec_stop tag desk (serveStop_of_stopped stopped), answerOnlyNow_slotReply s l 2 tag _⟩

/-! ## The emergency-stop pair (R154, R155) -/

theorem channelEvent_same {s : State} {c : Channel} {low : Bool} (same : s.stop.channel c = low) : s.channelEvent c low = s := if_pos same

/-- A channel becoming ACTIVE outside STOPPED. -/
theorem channelEvent_active {s : State} {c : Channel} (changed : s.stop.channel c ≠ true) (outside : s.stop.state ≠ .stopped) :
    s.channelEvent c true = (s.updStop fun x => x.putChannel c true).enterStopped := by
  have state : (s.updStop fun x => x.putChannel c true).stop.state ≠ .stopped := by cases c <;> exact outside
  unfold State.channelEvent
  rw [if_neg changed]
  dsimp only
  rw [if_pos rfl, if_neg state]

/-- A channel's change in STOPPED: recorded, and the last one becoming INACTIVE enters LATCHED. -/
theorem channelEvent_stopped {s : State} {c : Channel} {low : Bool} (changed : s.stop.channel c ≠ low) (stopped : s.stop.state = .stopped) :
    s.channelEvent c low = s.updStop fun x =>
      { x.putChannel c low with state := if (x.putChannel c low).clear then .latched else .stopped } := by
  have state : (s.updStop fun x => x.putChannel c low).stop.state = .stopped := by
    cases c
    · exact stopped
    · exact stopped
  unfold State.channelEvent
  rw [if_neg changed]
  dsimp only
  cases low with
  | true =>
    have active : (s.stop.putChannel c true).clear = false := by cases c <;> simp [StopRec.putChannel, StopRec.clear]
    rw [if_pos rfl, if_pos state]
    exact congrArg (fun x => ({ s with stop := x } : State)) (by simp [active, ← state])
  | false =>
    rw [if_neg Bool.false_ne_true]
    by_cases clear : (s.stop.putChannel c false).clear = true
    · rw [if_pos ⟨state, clear⟩]
      exact congrArg (fun x => ({ s with stop := x } : State)) (by simp [clear])
    · rw [if_neg fun both => clear both.2]
      exact congrArg (fun x => ({ s with stop := x } : State)) (by simp [clear, ← state])

theorem channelActive_settled {s : State} {c : Channel} (changed : s.stop.channel c ≠ true) (outside : s.stop.state ≠ .stopped) :
    ∃ t, exec (.estopChannelEvent c true) s = .next t ∧ StopEntered s t ∧ t.links = s.links ∧
      t.stop = { s.stop.putChannel c true with state := .stopped } := by
  refine ⟨_, congrArg Host.Outcome.next (channelEvent_active changed outside), (enterStopped_entered _).congr rfl rfl, ?_,
    enterStopped_stop _⟩
  rw [enterStopped_frame]
  rfl

/-- Settles O28: a level held, a channel becoming ACTIVE outside STOPPED, and a channel's change in STOPPED. -/
theorem channelEvents : Obligations.ChannelEvents := by
  refine ⟨fun c low s same => congrArg Host.Outcome.next (channelEvent_same same), ?_, ?_, ?_, ?_⟩
  · rintro low s changed outside rfl
    obtain ⟨t, taken, entered, links, stop⟩ := channelActive_settled (c := .a) changed outside
    refine ⟨t, taken, entered, links, stop.trans ?_⟩
    cases b : s.stop.channelB <;> simp [StopRec.putChannel, b]
  · rintro low s changed outside rfl
    obtain ⟨t, taken, entered, links, stop⟩ := channelActive_settled (c := .b) changed outside
    refine ⟨t, taken, entered, links, stop.trans ?_⟩
    cases a : s.stop.channelA <;> simp [StopRec.putChannel, a]
  · intro low s changed stopped
    refine ⟨_, congrArg Host.Outcome.next (channelEvent_stopped (c := .a) changed stopped), rfl, ?_⟩
    simp [StopRec.putChannel, StopRec.clear]
  · intro low s changed stopped
    refine ⟨_, congrArg Host.Outcome.next (channelEvent_stopped (c := .b) changed stopped), rfl, ?_⟩
    simp [StopRec.putChannel, StopRec.clear, and_comm]

/-! ## Reasons taken from every claim, and the pass that follows (R161, R162) -/

/-- The stop record after RELEASE ALL (R161). -/
def StopRec.holdAllOff (x : StopRec) : StopRec := { x with holdAll := false }

/-- The stop record at the entry to RUN (R162). -/
def StopRec.resumed (x : StopRec) : StopRec := { x with state := .run, mark := false }

/-- A claim with its reasons changed. -/
def ClaimRec.withReasons (f : Reasons → Reasons) (c : ClaimRec) : ClaimRec := { c with reasons := f c.reasons }

/-- The stop record changed, the reasons of every claim changed, and the claims settled: a release of holds before its pass. -/
def State.holdsReleased (s : State) (g : StopRec → StopRec) (f : Reasons → Reasons) : State :=
  ((s.updStop g).mapClaims (ClaimRec.withReasons f)).settle

theorem serveReleaseAll_eq (s : State) : serveReleaseAll s =
    (passIf s.stop.holdAll (s.holdsReleased StopRec.holdAllOff Reasons.releaseAll), Reply.of .done) := rfl

theorem enterRun_eq (s : State) :
    s.enterRun = passIf true (s.holdsReleased StopRec.resumed Reasons.convertEstop) := rfl

theorem holdsReleased_eq (s : State) (g : StopRec → StopRec) (f : Reasons → Reasons) : ∃ h : ClaimRec → ClaimRec,
    s.holdsReleased g f = (s.updStop g).mapClaims h ∧ ∀ c, Reheld (c.withReasons f) (h c) := by
  obtain ⟨h, settled, reheld⟩ := settle_reheld ((s.updStop g).mapClaims (ClaimRec.withReasons f))
  exact ⟨_, settled.trans (mapClaims_mapClaims ..), fun c => reheld _⟩

theorem holdsReleased_frame (s : State) (g : StopRec → StopRec) (f : Reasons → Reasons) (b : Bool) :
    PassFrame (s.updStop g) (passIf b (s.holdsReleased g f)) := by
  obtain ⟨h, released, -⟩ := holdsReleased_eq s g f
  rw [released]
  exact (show PassFrame (s.updStop g) ((s.updStop g).mapClaims h) from rfl).trans' (passIf_frame b _)

theorem holdsReleased_links (s : State) (g : StopRec → StopRec) (f : Reasons → Reasons) (b : Bool) :
    (passIf b (s.holdsReleased g f)).links = s.links :=
  (congrArg State.links (holdsReleased_frame s g f b)).trans rfl

theorem holdsReleased_stop (s : State) (g : StopRec → StopRec) (f : Reasons → Reasons) (b : Bool) :
    (passIf b (s.holdsReleased g f)).stop = g s.stop :=
  (congrArg State.stop (holdsReleased_frame s g f b)).trans rfl

/-- After a release and its pass a claim has the reasons that the release gave it, but for COLUMN and GROUP. -/
theorem mem_holdsReleased {s : State} {g : StopRec → StopRec} {f : Reasons → Reasons} {b : Bool} {d : ClaimRec}
    (mem : d ∈ (passIf b (s.holdsReleased g f)).claims) :
    ∃ c ∈ s.claims, { d.reasons with column := false, group := false } = { f c.reasons with column := false, group := false } := by
  obtain ⟨e, mem, regranted⟩ := (passIf_granting _ _).before mem
  obtain ⟨h, released, reheld⟩ := holdsReleased_eq s g f
  rw [released] at mem
  obtain ⟨c, there, rfl⟩ := List.mem_map.1 mem
  refine ⟨c, there, ?_⟩
  rw [regranted.same]
  exact (reheld c).firm

theorem holdsReleased_queues {s : State} (laws : ClaimLaws s) (g : StopRec → StopRec) (f : Reasons → Reasons) : QueueLaws (s.holdsReleased g f) :=
  (laws.queues.map (s := s.updStop g) (ClaimRec.withReasons f) (fun _ => rfl) (fun _ => rfl) (fun _ => rfl) fun _ => Iff.rfl).reheld (settle_reheld _)

/-! ## RELEASE ALL (R161) -/

/-- A HELD claim of no group that the release leaves without a reason, and whose span meets no column, leaves HELD. -/
theorem holdsReleased_leaves {s : State} (laws : ClaimLaws s) (g : StopRec → StopRec) (f : Reasons → Reasons) (b : Bool) {c : ClaimRec}
    (leaves : Leaves s c (f c.reasons)) : HasLeft (passIf b (s.holdsReleased g f)) c := by
  obtain ⟨mem, held, alone, free, emptied⟩ := leaves
  have found : ((s.updStop g).mapClaims (ClaimRec.withReasons f)).claim? c.number =
      some (c.withReasons f) := by
    refine (claim?_mapClaims s (ClaimRec.withReasons f) (fun _ => rfl) c.number).trans ?_
    rw [claim?_of_mem laws.1.1 mem, Option.map_some]
  have meets : ((s.updStop g).mapClaims (ClaimRec.withReasons f)).spanMeetsColumn (c.withReasons f) =
      false := (spanMeetsColumn_mapClaims (s.updStop g) (ClaimRec.withReasons f) (fun _ => rfl) (fun _ => Iff.rfl) c _ rfl rfl).trans free
  obtain ⟨d, left, state, reasons, span⟩ := settle_leaves _ _ c.number found held emptied alone meets
  refine ⟨d, claim?_passIf (holdsReleased_queues laws g f) b left ?_, state, reasons, span⟩
  rw [state]
  split
  · exact nofun
  · exact nofun

/-- Settles O29: the release of ALL and OPERATOR, the claims settled, and the pass where hold-all was on. -/
theorem releaseAllTaken : Obligations.ReleaseAllTaken := by
  intro l tag s desk
  have frame := holdsReleased_frame s StopRec.holdAllOff Reasons.releaseAll s.stop.holdAll
  refine ⟨_, exec_taken (r := .releaseAll) desk rfl rfl (serveReleaseAll_eq s), ?_, holdsReleased_stop s StopRec.holdAllOff Reasons.releaseAll _,
    fun d mem => ?_, fun laws c leaves => holdsReleased_leaves laws StopRec.holdAllOff Reasons.releaseAll _ leaves,
    answered_queueReply l 16 tag _ (holdsReleased_links s StopRec.holdAllOff Reasons.releaseAll _)⟩
  · rw [queueReply_frame, frame]
    rfl
  · obtain ⟨c, -, firm⟩ := mem_holdsReleased mem
    exact ⟨congrArg Reasons.all firm, congrArg Reasons.operator firm⟩

/-! ## RESUME (R162) -/

theorem convertEstop_estop (r : Reasons) : r.convertEstop.estop = false := by
  unfold Reasons.convertEstop
  split
  · rfl
  · rename_i absent
    exact Bool.eq_false_of_not_eq_true absent

/-- A HELD claim that carried ESTOP is HELD with OPERATOR after the release, the claims settled and the pass taken (R147). -/
theorem holdsReleased_converted {s : State} (laws : ClaimLaws s) (g : StopRec → StopRec) {c : ClaimRec} (mem : c ∈ s.claims)
    (held : c.state = .held) (carried : c.reasons.estop = true) (b : Bool) :
    ∃ d, (passIf b (s.holdsReleased g Reasons.convertEstop)).claim? c.number = some d ∧ d.state = .held ∧ d.reasons.operator = true := by
  obtain ⟨h, released, reheld⟩ := holdsReleased_eq s g Reasons.convertEstop
  have operator : c.reasons.convertEstop.operator = true := congrArg Reasons.operator (if_pos carried)
  have stays : (h c).state = .held := (reheld c).held held (firm_of_operator operator)
  have found : (s.holdsReleased g Reasons.convertEstop).claim? c.number = some (h c) := by
    rw [released]
    refine (claim?_mapClaims s h (fun c => (reheld c).number) c.number).trans ?_
    rw [claim?_of_mem laws.1.1 mem, Option.map_some]
  exact ⟨h c, claim?_passIf (holdsReleased_queues laws g _) b found (by rw [stays]; exact nofun), stays, (reheld c).operator.trans operator⟩

theorem serveResume_of_latched {s : State} (latched : s.stop.state = .latched) : serveResume s = (s.enterRun, Reply.of .done) := by
  rw [serveResume, latched]

theorem serveResume_of_stopped {s : State} (stopped : s.stop.state = .stopped) : serveResume s = (s, Reply.of .stopped) := by
  rw [serveResume, stopped]

theorem serveResume_of_run {s : State} (run : s.stop.state = .run) : serveResume s = (s, Reply.of .done) := by
  rw [serveResume, run]

/-- Settles O30: RESUME in LATCHED, by the release of ESTOP for OPERATOR and its pass, and RESUME in STOPPED and in RUN. -/
theorem resumeTaken : Obligations.ResumeTaken := by
  refine ⟨fun l tag s desk latched => ?_,
    fun _ _ _ desk stopped => exec_answerOnly (r := .resume) desk rfl rfl (serveResume_of_stopped stopped),
    fun _ _ _ desk run => exec_answerOnly (r := .resume) desk rfl rfl (serveResume_of_run run)⟩
  have frame := holdsReleased_frame s StopRec.resumed Reasons.convertEstop true
  refine ⟨_, exec_taken (r := .resume) desk rfl rfl (serveResume_of_latched latched), ?_,
    holdsReleased_stop s StopRec.resumed Reasons.convertEstop true, fun d mem => ?_,
    fun laws c mem held carried => holdsReleased_converted laws StopRec.resumed mem held carried true,
    answered_queueReply l 17 tag _ (holdsReleased_links s StopRec.resumed Reasons.convertEstop true)⟩
  · rw [queueReply_frame, enterRun_eq, frame]
    rfl
  · obtain ⟨c, -, firm⟩ := mem_holdsReleased (g := StopRec.resumed) (f := Reasons.convertEstop) (b := true) mem
    exact (congrArg Reasons.estop firm).trans (convertEstop_estop c.reasons)

end Sys2Proof.Machine
end

section
/-! SUPPORT. What a step can do to the bounded records: BoundsStep, its composition, and the shared operations as such steps (R66, R98, R178, R181). -/

namespace Sys2Proof.Machine

/-! ## The bounds, record by record -/

/-- A controller whose idle slice and miss counts are in their ranges (R108, R178). -/
structure BusBounded (b : Bus) : Prop where
  slice : 1 ≤ b.idleSlice ∧ b.idleSlice ≤ 16
  misses : ∀ a, (b.station a).missCount ≤ 3

/-- A link whose presence window is in its range, and that is as R166 and R170 have it. -/
structure LinkBounded (x : LinkRec) : Prop where
  window : 100 ≤ x.window ∧ x.window ≤ 1000
  ok : LinkOk x

/-- The weights of the desks are in their range (R178). -/
def WeightsBounded (s : State) : Prop := ∀ l, 1 ≤ s.weights.get l ∧ s.weights.get l ≤ 8

/-- The latch counts are in their range (R181). -/
def CountsBounded (a : AttentionRec) : Prop := ∀ n, a.count n ≤ 255

/-- The bounds with a name for each. -/
structure AllBounded (s : State) : Prop where
  clearance : s.clearance ≤ 1000
  nearFull : 1 ≤ s.nearFull ∧ s.nearFull ≤ 160
  weights : WeightsBounded s
  served : s.served ≤ 8
  drift : 5 ≤ s.driftTolerance ∧ s.driftTolerance ≤ 100
  buses : ∀ f, BusBounded (s.bus f)
  links : ∀ l, LinkBounded (s.link l)
  counts : CountsBounded s.attention

theorem bounds_iff (s : State) : Bounds s ↔ AllBounded s := by
  constructor
  · rintro ⟨⟨clearance, nearFull, weights, served, drift, slices, windows, counts⟩, misses, links⟩
    exact ⟨clearance, nearFull, weights, served, drift, fun f => ⟨slices f, misses f⟩, fun l => ⟨windows l, links l⟩, counts⟩
  · rintro ⟨clearance, nearFull, weights, served, drift, buses, links, counts⟩
    exact ⟨⟨clearance, nearFull, weights, served, drift, fun f => (buses f).slice, fun l => (links l).window, counts⟩,
      fun f => (buses f).misses, fun l => (links l).ok⟩

/-! ## A step of the owners -/

/-- What a step that writes no link and no parameter does: it keeps the bounds of the served count, the controllers and the latch
counts. -/
structure BoundsStep (s t : State) : Prop where
  links : t.links = s.links
  clearance : t.clearance = s.clearance
  nearFull : t.nearFull = s.nearFull
  weights : t.weights = s.weights
  drift : t.driftTolerance = s.driftTolerance
  served : WeightsBounded s → s.served ≤ 8 → t.served ≤ 8
  buses : ∀ f, BusBounded (s.bus f) → BusBounded (t.bus f)
  counts : CountsBounded s.attention → CountsBounded t.attention

theorem BoundsStep.refl (s : State) : BoundsStep s s := ⟨rfl, rfl, rfl, rfl, rfl, fun _ => id, fun _ => id, id⟩

theorem BoundsStep.trans {s t u : State} (h : BoundsStep s t) (k : BoundsStep t u) : BoundsStep s u where
  links := k.links.trans h.links
  clearance := k.clearance.trans h.clearance
  nearFull := k.nearFull.trans h.nearFull
  weights := k.weights.trans h.weights
  drift := k.drift.trans h.drift
  served w b := k.served (fun l => by rw [h.weights]; exact w l) (h.served w b)
  buses f b := k.buses f (h.buses f b)
  counts b := k.counts (h.counts b)

/-- A step whose frame leaves out the bounded records. -/
theorem BoundsStep.of_frame {s t u : State} (frame : t = u)
    (same : (u.links, u.clearance, u.nearFull, u.weights, u.driftTolerance, u.served, u.buses, u.attention) =
      (s.links, s.clearance, s.nearFull, s.weights, s.driftTolerance, s.served, s.buses, s.attention)) : BoundsStep s t := by
  simp only [Prod.mk.injEq] at same
  obtain ⟨links, clearance, nearFull, weights, drift, served, buses, attention⟩ := same
  subst frame
  refine ⟨links, clearance, nearFull, weights, drift, fun _ => ?_, fun f => ?_, ?_⟩
  · rw [served]
    exact id
  · rw [bus_congr buses]
    exact id
  · rw [attention]
    exact id

/-- A step of the Attention Unit alone. -/
theorem BoundsStep.of_attention {s t : State} (frame : t = { s with attention := t.attention })
    (counts : CountsBounded s.attention → CountsBounded t.attention) : BoundsStep s t := by
  rw [frame] at counts ⊢
  exact ⟨rfl, rfl, rfl, rfl, rfl, fun _ => id, fun _ => id, counts⟩

/-- A step of one controller. -/
theorem BoundsStep.of_bus (s : State) (f : Segment) (g : Bus → Bus) (bounded : BusBounded (s.bus f) → BusBounded (g (s.bus f))) :
    BoundsStep s (s.updBus f g) := by
  refine ⟨rfl, rfl, rfl, rfl, rfl, fun _ => id, fun k => ?_, id⟩
  rw [bus_updBus]
  split
  · rename_i same
    rw [same]
    exact bounded
  · exact id

theorem AllBounded.step {s t : State} (h : AllBounded s) (k : BoundsStep s t) : AllBounded t where
  clearance := by rw [k.clearance]; exact h.clearance
  nearFull := by rw [k.nearFull]; exact h.nearFull
  weights l := by rw [k.weights]; exact h.weights l
  served := k.served h.weights h.served
  drift := by rw [k.drift]; exact h.drift
  buses f := k.buses f (h.buses f)
  links l := by rw [link_congr k.links]; exact h.links l
  counts := k.counts h.counts

/-! ## Latches (R181) -/

theorem count_latchTimes (a : AttentionRec) (src : Source) (k n : Nat) :
    (a.latchTimes src k).count n = if n = src.code then min 255 (a.count src.code + k) else a.count n := by
  have inside : src.code < 20 := by cases src <;> decide
  unfold AttentionRec.latchTimes AttentionRec.count
  rw [Vector.getElem?_setIfInBounds]
  by_cases same : src.code = n
  · subst same
    simp [inside]
  · simp [same, Ne.symm same]

theorem latchTimes_bounds (src : Source) (k : Nat) (s : State) : BoundsStep s (latchTimes src k s) := by
  refine .of_attention rfl fun bounded n => ?_
  show (s.attention.latchTimes src k).count n ≤ 255
  rw [count_latchTimes]
  split
  · exact Nat.min_le_left _ _
  · exact bounded n

theorem latch_bounds (src : Source) (s : State) : BoundsStep s (latch src s) := latchTimes_bounds src 1 s

theorem latchIf_bounds (b : Bool) (src : Source) (s : State) : BoundsStep s (latchIf b src s) := by
  unfold latchIf
  split
  · exact latch_bounds src s
  · exact .refl s

theorem setNotices_bounds (before s : State) : BoundsStep s (setNotices before s) :=
  (latchTimes_bounds _ _ s).trans (latchIf_bounds _ _ _)

theorem redigest_bounds (s : State) : BoundsStep s s.redigest :=
  (BoundsStep.of_frame rfl rfl : BoundsStep s { s with digest := s.hangDigest }).trans (latchIf_bounds _ _ _)

/-! ## The served count in a pass (R66, R71) -/

/-- A turn ends where the served count reaches the weight, so it does not pass it. -/
theorem examineAll_served {w : Nat} (es : List Entry) {s : State} (b : Bool) (below : s.served < w) :
    (examineAll w es s b).1.served ≤ w := by
  induction es generalizing s b with
  | nil => exact Nat.le_of_lt below
  | cons e es ih =>
    cases examined : s.examine e with
    | none =>
      rw [examineAll_of_refused es b examined]
      exact ih b below
    | some t =>
      rw [examineAll_of_granted es b examined below]
      split
      · exact Nat.le_refl w
      · rename_i more
        have room : s.served + 1 < w := by omega
        exact ih (s := { t with served := s.served + 1 }) true room

theorem turn_served {s : State} (below : s.served < s.weights.get s.pointer) : s.turn.1.served ≤ s.weights.get s.pointer := by
  unfold State.turn
  split
  · exact Nat.le_of_lt below
  · exact examineAll_served _ false below

theorem PassFrame.weights {s t : State} (h : PassFrame s t) : t.weights = s.weights :=
  (congrArg State.weights h).trans rfl

theorem passTurns_served (fuel empty : Nat) {s : State} (weights : WeightsBounded s) (below : s.served < s.weights.get s.pointer) :
    (passTurns fuel empty s).served ≤ 8 := by
  induction fuel generalizing empty s with
  | zero => exact Nat.le_of_lt (Nat.lt_of_lt_of_le below (weights _).2)
  | succ fuel ih =>
    have turned : WeightsBounded s.turn.1.nextDesk := fun l => by
      rw [nextDesk_weights, (turn_frame s).weights]
      exact weights l
    have next := fun empty => ih empty turned (turned _).1
    unfold passTurns
    dsimp only
    split
    · split
      · exact (turn_served below).trans (weights _).2
      · exact next 0
    · split
      · exact Nat.zero_le 8
      · exact next (empty + 1)

theorem pass_served {s : State} (weights : WeightsBounded s) (served : s.served ≤ 8) : s.pass.served ≤ 8 := by
  unfold State.pass
  split
  · exact served
  · split
    · exact served
    · dsimp only
      split
      · exact passTurns_served _ 0 (s := s.nextDesk) weights (weights _).1
      · rename_i room
        exact passTurns_served _ 0 weights (Nat.lt_of_not_le room)

theorem pass_bounds (s : State) : BoundsStep s s.pass := by
  have frame : s.pass = _ := pass_frame s
  refine ⟨by rw [frame], by rw [frame], by rw [frame], by rw [frame], by rw [frame], pass_served, fun f => ?_, ?_⟩
  · rw [frame]
    exact id
  · rw [frame]
    exact id

theorem passIf_bounds (b : Bool) (s : State) : BoundsStep s (passIf b s) := by
  unfold passIf
  split
  · exact pass_bounds s
  · exact .refl s

/-! ## Claims, sets, bonds and groups -/

theorem mapClaims_bounds (s : State) (f : ClaimRec → ClaimRec) : BoundsStep s (s.mapClaims f) := .of_frame rfl rfl
theorem updClaim_bounds (s : State) (n : Nat) (f : ClaimRec → ClaimRec) : BoundsStep s (s.updClaim n f) := .of_frame rfl rfl
theorem holdWhere_bounds (s : State) (p : ClaimRec → Bool) (add : Reasons → Reasons) : BoundsStep s (s.holdWhere p add) :=
  .of_frame rfl rfl
theorem regroup_bounds (s : State) : BoundsStep s s.regroup := .of_frame rfl rfl
theorem settle_bounds (s : State) : BoundsStep s s.settle := .of_frame rfl rfl
theorem reevalColumns_bounds (s : State) : BoundsStep s s.reevalColumns := .of_frame rfl rfl
theorem raiseColumn_bounds (s : State) (m : Mover) : BoundsStep s (s.raiseColumn m) := .of_frame (raiseColumn_frame s m) rfl
theorem updSet_bounds (s : State) (n : Nat) (f : SetRec → SetRec) : BoundsStep s (s.updSet n f) := .of_frame rfl rfl
theorem updStop_bounds (s : State) (g : StopRec → StopRec) : BoundsStep s (s.updStop g) := .of_frame rfl rfl
theorem putGroup_bounds (s : State) (g : Nat) (x : Option GroupRec) : BoundsStep s (s.putGroup g x) := .of_frame rfl rfl
theorem putFaultSummary_bounds (s : State) (n : Nat) (x : FaultSummary) : BoundsStep s (s.putFaultSummary n x) :=
  .of_attention rfl id
theorem engage_bounds (s : State) (m : Mover) : BoundsStep s (s.engage m) := .of_frame (engage_frame s m) rfl
theorem grant_bounds (s : State) (c : ClaimRec) (v : Nat) (p : Plan) : BoundsStep s (s.grant c v p) := .of_frame (grant_frame s c v p) rfl
theorem removeWaiting_bounds (s : State) (c : ClaimRec) : BoundsStep s (s.removeWaiting c) := .of_frame (removeWaiting_frame s c) rfl
theorem dissolveGroup_bounds (s : State) (g : Nat) (x : GroupRec) : BoundsStep s (s.dissolveGroup g x) :=
  .of_frame (dissolveGroup_frame s g x) rfl
theorem trustNotices_bounds (before : State) (ms : List Mover) (s : State) : BoundsStep s (trustNotices before ms s) :=
  .of_frame (trustNotices_frame before ms s) rfl

theorem stateNotices_bounds (before : State) (ms : List Mover) (s : State) : BoundsStep s (stateNotices before ms s) :=
  (setNotices_bounds before s).trans (trustNotices_bounds before ms _)

theorem create_bounds (s : State) (c : ClaimRec) : BoundsStep s (s.create c) := by
  have attached : BoundsStep s (({ s with claims := s.claims ++ [c] } : State).setClaimField c.mover (some c.number)) :=
    .of_frame (setClaimField_frame _ _ _) rfl
  exact attached.trans (latchIf_bounds _ _ _)

theorem groupDrop_bounds (s : State) (c : ClaimRec) : BoundsStep s (s.groupDrop c) := by
  unfold State.groupDrop
  split
  · exact .refl s
  · split
    · exact .refl s
    · dsimp only
      split
      · exact putGroup_bounds s _ _
      · split
        · exact putGroup_bounds s _ _
        · exact (dissolveGroup_bounds s _ _).trans (latch_bounds _ _)
      · exact putGroup_bounds s _ _

theorem removeLive_bounds (s : State) (c : ClaimRec) (e : Ending) : BoundsStep s (s.removeLive c e) := by
  have disengaged : BoundsStep s ((s.removeWaiting c).updSets ((s.removeWaiting c).members c.mover) fun n r => r.disengage e n) :=
    (removeWaiting_bounds s c).trans (.of_frame (updSets_frame _ _ _) rfl)
  exact disengaged.trans ((setNotices_bounds s _).trans ((groupDrop_bounds _ c).trans (trustNotices_bounds s _ _)))

theorem faultClaim_bounds (s : State) (c : ClaimRec) (k : FaultCause) : BoundsStep s (s.faultClaim c k) := by
  unfold State.faultClaim
  split
  · dsimp only
    have faulted := (updClaim_bounds s c.number fun x => x.fault k).trans (latch_bounds .claimFault _)
    refine (faulted.trans ?_).trans ((mapClaims_bounds _ _).trans (regroup_bounds _))
    split
    · exact .refl _
    · exact raiseColumn_bounds _ _
  · exact .refl s

theorem columnChanged_bounds (before : State) (m : Mover) (s : State) : BoundsStep s (columnChanged before m s) :=
  ((raiseColumn_bounds s m).trans (reevalColumns_bounds _)).trans (passIf_bounds _ _)

end Sys2Proof.Machine
end

section
/-! SUPPORT. The owners' steps of the requests keep the bounds: each is a BoundsStep, but for SET PARAMETER, whose form check holds the ranges. -/

namespace Sys2Proof.Machine

/-! ## Controllers (R98, R100, R108) -/

/-- A station record written with a lawful miss count. -/
theorem BusBounded.putStation {b : Bus} (h : BusBounded b) (a : Nat) {x : Station} (misses : x.missCount ≤ 3) :
    BusBounded (b.putStation a x) := by
  refine ⟨h.slice, fun k => ?_⟩
  rw [station_putStation]
  split
  · exact misses
  · exact h.misses k

/-- A controller that differs in neither its slice nor its stations. -/
theorem BusBounded.congr {b c : Bus} (h : BusBounded b) (slice : c.idleSlice = b.idleSlice) (stations : c.stations = b.stations) :
    BusBounded c := by
  have same : ∀ a, c.station a = b.station a := fun a => by rw [Bus.station, Bus.station, stations]
  refine ⟨?_, fun a => ?_⟩
  · rw [slice]
    exact h.slice
  · rw [same]
    exact h.misses a

theorem BusBounded.clearFresh {b : Bus} (h : BusBounded b) : BusBounded b.clearFresh := by
  refine ⟨h.slice, fun a => ?_⟩
  rw [station_clearFresh]
  exact Nat.zero_le 3

/-- A controller's step that leaves its slice and its stations. -/
theorem BoundsStep.of_records (s : State) (f : Segment) (g : Bus → Bus)
    (same : ∀ b, (g b).idleSlice = b.idleSlice ∧ (g b).stations = b.stations) : BoundsStep s (s.updBus f g) :=
  .of_bus s f g fun h => h.congr (same _).1 (same _).2

theorem enterPolling_bounds (s : State) (f : Segment) : BoundsStep s (s.enterPolling f) := .of_records s f _ fun _ => ⟨rfl, rfl⟩
theorem enterIdle_bounds (s : State) (f : Segment) : BoundsStep s (s.enterIdle f) := .of_records s f _ fun _ => ⟨rfl, rfl⟩

theorem clearSegment_bounds (s : State) (f : Segment) : BoundsStep s (s.clearSegment f) :=
  .of_bus s f _ fun h => h.clearFresh.congr rfl rfl

theorem stationJoins_bounds (s : State) (f : Segment) (a n : Nat) : BoundsStep s (s.stationJoins f a n) := by
  have joined : BoundsStep s (s.updBus f fun b => b.joined a n) := .of_bus s f _ fun h => h.putStation a (Nat.zero_le 3)
  unfold State.stationJoins
  dsimp only
  split
  · exact joined.trans (enterPolling_bounds _ f)
  · exact joined

theorem stationLeaves_bounds (s : State) (f : Segment) (a : Nat) : BoundsStep s (s.stationLeaves f a) := by
  have left : BoundsStep s (s.updBus f fun b => b.left a) :=
    .of_bus s f _ fun h => (h.putStation a (Nat.zero_le 3)).congr rfl rfl
  unfold State.stationLeaves
  dsimp only
  split
  · exact left.trans (enterIdle_bounds _ f)
  · exact left

theorem serveLoopTest_bounds (k : Nat) (s : State) : BoundsStep s (serveLoopTest k s).1 := by
  unfold serveLoopTest
  split
  · exact .refl s
  · split
    · exact .refl s
    · split
      · exact .refl s
      · exact .of_records s _ Bus.startLoop fun _ => ⟨rfl, rfl⟩

/-! ## The requests on claims -/

theorem claimOutcome_bounds (l : Link) (q : ClaimReq) (n : Nat) (s : State) : BoundsStep s (s.claimOutcome l q n).1 := by
  unfold State.claimOutcome
  dsimp only
  split
  · split
    · exact (create_bounds s _).trans (engage_bounds _ _)
    · exact .refl s
  · split
    · exact (create_bounds s _).trans ((putGroup_bounds _ _ _).trans (passIf_bounds _ _))
    · split
      · exact (create_bounds s _).trans (grant_bounds _ _ _ _)
      · split
        · exact create_bounds s _
        · exact .refl s

theorem serveClaim_bounds (l : Link) (q : ClaimReq) (s : State) : BoundsStep s (serveClaim l q s).1 := by
  unfold serveClaim
  split
  · exact .refl s
  · split
    · exact claimOutcome_bounds l q _ s
    · exact .refl s

theorem onClaim_bounds (s : State) (n : Nat) (k : ClaimRec → State × Reply) (h : ∀ c, BoundsStep s (k c).1) :
    BoundsStep s (s.onClaim n k).1 := by
  unfold State.onClaim
  split
  · exact h _
  · exact .refl s

theorem onOwnClaim_bounds (s : State) (l : Link) (n : Nat) (k : ClaimRec → State × Reply) (h : ∀ c, BoundsStep s (k c).1) :
    BoundsStep s (s.onOwnClaim l n k).1 :=
  onClaim_bounds s n _ fun c => by
    split
    · exact h c
    · exact .refl s

theorem acceptRetarget_bounds (s : State) (c : ClaimRec) (q : RetargetReq) (targets : List (Nat × Int)) (v : Nat)
    (new old : Region) : BoundsStep s (s.acceptRetarget c q targets v new old) := by
  unfold State.acceptRetarget
  refine BoundsStep.trans ?_ (passIf_bounds _ _)
  split
  · exact (updClaim_bounds s _ _).trans (reevalColumns_bounds _)
  · exact updClaim_bounds s _ _

theorem retargetLive_bounds (s : State) (c : ClaimRec) (q : RetargetReq) : BoundsStep s (s.retargetLive c q).1 := by
  unfold State.retargetLive
  dsimp only
  split
  · exact .refl s
  · split
    · split
      · exact .refl s
      · exact acceptRetarget_bounds s c q _ _ _ _
    · exact .refl s
    · exact .refl s

theorem serveRetarget_bounds (l : Link) (q : RetargetReq) (s : State) : BoundsStep s (serveRetarget l q s).1 :=
  onOwnClaim_bounds s l _ _ fun c => by
    split
    · exact .refl s
    · split
      · exact (updClaim_bounds s c.number _).trans (pass_bounds _)
      · exact retargetLive_bounds s c q

theorem serveRetire_bounds (l : Link) (n : Nat) (s : State) : BoundsStep s (serveRetire l n s).1 :=
  onOwnClaim_bounds s l _ _ fun c => by
    have retires := (updClaim_bounds s n ClaimRec.retire).trans (regroup_bounds _)
    cases c.state with
    | waiting => exact (removeWaiting_bounds s c).trans (groupDrop_bounds _ c)
    | granted => exact retires
    | moving => exact retires
    | held => exact retires
    | retiring => exact .refl s
    | arrived => exact (removeLive_bounds s c _).trans (pass_bounds _)
    | standing => exact (removeLive_bounds s c _).trans (pass_bounds _)
    | faulted => exact (removeLive_bounds s c _).trans (pass_bounds _)

theorem serveHoldClaim_bounds (n : Nat) (s : State) : BoundsStep s (serveHoldClaim n s).1 :=
  onClaim_bounds s n _ fun _ => by
    split
    · exact (updClaim_bounds s n _).trans (regroup_bounds _)
    · exact .refl s

theorem serveReleaseClaim_bounds (l : Link) (n : Nat) (s : State) : BoundsStep s (serveReleaseClaim l n s).1 :=
  onOwnClaim_bounds s l n _ fun _ => by
    split
    · exact (updClaim_bounds s n _).trans (settle_bounds _)
    · split <;> exact .refl s

theorem transfer_bounds (s : State) (src l : Link) : BoundsStep s (s.transfer src l) := by
  have taken : BoundsStep s
      { s.mapClaims (ClaimRec.adopt src l) with groups := s.groups.map (Option.map (GroupRec.adopt src l)) } := .of_frame rfl rfl
  exact taken.trans ((settle_bounds _).trans (pass_bounds _))

theorem serveAdopt_bounds (l : Link) (src : Nat) (s : State) : BoundsStep s (serveAdopt l src s).1 := by
  unfold serveAdopt
  split
  · exact .refl s
  · split
    · exact .refl s
    · split
      · exact .refl s
      · exact transfer_bounds s _ l

theorem warm_bounds (s : State) : BoundsStep s s.warm where
  links := rfl
  clearance := rfl
  nearFull := rfl
  weights := rfl
  drift := rfl
  served _ _ := Nat.zero_le 8
  buses f h := by cases f <;> exact h.clearFresh
  counts := id

theorem serveWarmRestart_bounds (s : State) : BoundsStep s (serveWarmRestart s).1 := by
  unfold serveWarmRestart
  split
  · exact .refl s
  · exact warm_bounds s

/-! ## The requests on keep-outs, groups and the attention -/

theorem serveAddKeepout_bounds (q : KeepoutReq) (s : State) : BoundsStep s (serveAddKeepout q s).1 := by
  unfold serveAddKeepout
  split
  · exact .refl s
  · split <;> exact .of_frame rfl rfl

theorem serveRetireKeepout_bounds (n : Nat) (s : State) : BoundsStep s (serveRetireKeepout n s).1 := by
  unfold serveRetireKeepout
  split
  · exact .refl s
  · exact (BoundsStep.of_frame rfl rfl : BoundsStep s (s.putKeepout n none)).trans (pass_bounds _)

theorem serveOpenGroup_bounds (l : Link) (q : OpenGroupReq) (s : State) : BoundsStep s (serveOpenGroup l q s).1 := by
  unfold serveOpenGroup
  split
  · exact .refl s
  · exact putGroup_bounds s _ _

theorem onOwnGroup_bounds (s : State) (l : Link) (g : Nat) (k : GroupRec → State × Reply) (h : ∀ x, BoundsStep s (k x).1) :
    BoundsStep s (s.onOwnGroup l g k).1 := by
  unfold State.onOwnGroup State.onGroup
  split
  · dsimp only
    split
    · exact h _
    · exact .refl s
  · exact .refl s

theorem serveCloseGroup_bounds (l : Link) (g : Nat) (s : State) : BoundsStep s (serveCloseGroup l g s).1 :=
  onOwnGroup_bounds s l g _ fun _ => by
    split
    · exact .refl s
    · exact (putGroup_bounds s g _).trans (pass_bounds _)

theorem serveCancelGroup_bounds (l : Link) (g : Nat) (s : State) : BoundsStep s (serveCancelGroup l g s).1 :=
  onOwnGroup_bounds s l g _ fun x => by
    split
    · exact .refl s
    · exact dissolveGroup_bounds s g x

/-- Latch counts set to 0, source by source, stay in their range (R185). -/
theorem clear_counts {a : AttentionRec} (h : CountsBounded a) (codes : List Nat) : CountsBounded (a.clear codes) := by
  induction codes generalizing a with
  | nil => exact h
  | cons n codes ih =>
    refine ih (a := { a with counts := a.counts.setIfInBounds n 0 }) fun k => ?_
    show ((a.counts.setIfInBounds n 0)[k]?).getD 0 ≤ 255
    rw [Vector.getElem?_setIfInBounds]
    split
    · split <;> exact Nat.zero_le 255
    · exact h k

theorem serveClearAttention_bounds (q : ClearReq) (s : State) : BoundsStep s (serveClearAttention q s).1 := by
  unfold serveClearAttention
  split
  · exact .refl s
  · exact .of_attention rfl fun h => clear_counts h _

theorem serveClearFaults_bounds (n : Option Nat) (s : State) : BoundsStep s (serveClearFaults n s).1 := by
  cases n with
  | some k => exact putFaultSummary_bounds s k _
  | none => exact .of_attention rfl id

/-! ## The lookups -/

theorem serveLookupKeepout_bounds (n : Nat) (s : State) : BoundsStep s (serveLookupKeepout n s).1 := by
  unfold serveLookupKeepout
  split <;> exact .refl s

theorem serveLookupGroup_bounds (g : Nat) (s : State) : BoundsStep s (serveLookupGroup g s).1 := by
  unfold serveLookupGroup State.onGroup
  split <;> exact .refl s

theorem serveLookupBond_bounds (b : Nat) (s : State) : BoundsStep s (serveLookupBond b s).1 := by
  unfold serveLookupBond
  split <;> exact .refl s

theorem serveLookupSegment_bounds (f : Nat) (s : State) : BoundsStep s (serveLookupSegment f s).1 := by
  unfold serveLookupSegment
  split <;> exact .refl s

theorem serveLookupStation_bounds (f a : Nat) (s : State) : BoundsStep s (serveLookupStation f a s).1 := by
  unfold serveLookupStation
  split <;> exact .refl s

theorem serveReadParameter_bounds (p : ParamName) (s : State) : BoundsStep s (serveReadParameter p s).1 := by
  unfold serveReadParameter
  split <;> exact .refl s

/-! ## The stop and the holds -/

theorem cancelWaits_bounds (s : State) : BoundsStep s s.cancelWaits := by
  have gone : BoundsStep s s.waitsGone := .of_frame (waitsGone_frame s) rfl
  exact gone.trans (latchIf_bounds _ _ _)

theorem enterStopped_bounds (s : State) : BoundsStep s s.enterStopped :=
  ((updStop_bounds s _).trans (holdWhere_bounds _ _ _)).trans
    ((cancelWaits_bounds _).trans ((regroup_bounds _).trans (latch_bounds _ _)))

theorem serveStop_bounds (s : State) : BoundsStep s (serveStop s).1 := by
  unfold serveStop
  split
  · exact .refl s
  · dsimp only
    split
    · exact (enterStopped_bounds s).trans (updStop_bounds _ _)
    · exact enterStopped_bounds s

theorem serveHoldAll_bounds (s : State) : BoundsStep s (serveHoldAll s).1 :=
  (updStop_bounds s _).trans ((holdWhere_bounds _ _ _).trans ((regroup_bounds _).trans (latchIf_bounds _ _ _)))

theorem serveReleaseAll_bounds (s : State) : BoundsStep s (serveReleaseAll s).1 :=
  (updStop_bounds s _).trans ((mapClaims_bounds _ _).trans ((settle_bounds _).trans (passIf_bounds _ _)))

theorem serveResume_bounds (s : State) : BoundsStep s (serveResume s).1 := by
  unfold serveResume
  split
  · exact (updStop_bounds s _).trans ((mapClaims_bounds _ _).trans ((settle_bounds _).trans (pass_bounds _)))
  · exact .refl s
  · exact .refl s

/-! ## The Set Registry's requests -/

theorem configureNotices_bounds (before : State) (n : Nat) (s : State) : BoundsStep s (configureNotices before n s) := by
  unfold configureNotices
  split
  · exact (setNotices_bounds before s).trans (columnChanged_bounds before _ _)
  · exact stateNotices_bounds before _ s

theorem moveStation_bounds (s : State) (n : Nat) (old : Option Setup) (f : Segment) (a : Nat) :
    BoundsStep s (s.moveStation n old f a) := by
  unfold State.moveStation
  split
  · exact stationJoins_bounds s f a n
  · split
    · exact .refl s
    · exact (stationJoins_bounds s f a n).trans (stationLeaves_bounds _ _ _)

theorem serveConfigureSet_bounds (q : ConfigureReq) (s : State) : BoundsStep s (serveConfigureSet q s).1 := by
  cases refused : s.configureCheck q with
  | some r =>
    rw [serveConfigureSet_refused refused]
    exact .refl s
  | none =>
    rw [serveConfigureSet_taken refused]
    have written : BoundsStep s (s.reconfigured q) := (updSet_bounds s _ _).trans (moveStation_bounds _ _ _ _ _)
    exact written.trans ((redigest_bounds _).trans (configureNotices_bounds s _ _))

theorem dropStation_bounds (s : State) (u : Option Setup) : BoundsStep s (s.dropStation u) := by
  cases u with
  | some u => exact stationLeaves_bounds s _ _
  | none => exact .refl s

theorem serveReleaseSet_bounds (n : Nat) (s : State) : BoundsStep s (serveReleaseSet n s).1 := by
  cases refused : s.releaseCheck n with
  | some r =>
    rw [serveReleaseSet_refused refused]
    exact .refl s
  | none =>
    rw [serveReleaseSet_taken refused]
    have released : BoundsStep s (s.released n) := (updSet_bounds s _ _).trans (dropStation_bounds _ _)
    have noticed : BoundsStep s (s.releasedNoticed n) :=
      released.trans ((putFaultSummary_bounds _ _ _).trans ((redigest_bounds _).trans (setNotices_bounds s _)))
    refine BoundsStep.trans ?_ (pass_bounds _)
    split
    · exact noticed.trans (reevalColumns_bounds _)
    · exact noticed

theorem rehangNotices_bounds (s : State) (n : Nat) (t : State) : BoundsStep t (s.rehangNotices n t) := by
  unfold State.rehangNotices
  split
  · exact columnChanged_bounds s _ t
  · exact passIf_bounds _ t

theorem serveRehang_bounds (q : RehangReq) (s : State) : BoundsStep s (serveRehang q s).1 := by
  cases refused : s.rehangCheck q with
  | some r =>
    rw [serveRehang_refused refused]
    exact .refl s
  | none =>
    rw [serveRehang_taken refused]
    exact (updSet_bounds s _ _).trans ((redigest_bounds _).trans (rehangNotices_bounds s _ _))

theorem setLock_bounds (s : State) (n : Nat) (b : Bool) : BoundsStep s (s.setLock n b) := updSet_bounds s n _

theorem serveLockHang_bounds (n : Option Nat) (s : State) : BoundsStep s (serveLockHang n s).1 := by
  cases n with
  | some k =>
    unfold serveLockHang
    dsimp only
    split
    · exact .refl s
    · exact setLock_bounds s k true
  | none => exact .of_frame rfl rfl

theorem serveUnlockHang_bounds (n : Option Nat) (s : State) : BoundsStep s (serveUnlockHang n s).1 := by
  cases n with
  | some k => exact setLock_bounds s k false
  | none => exact .of_frame rfl rfl

theorem serveReinstate_bounds (n : Nat) (s : State) : BoundsStep s (serveReinstate n s).1 := by
  unfold serveReinstate
  split
  · exact .refl s
  · exact updSet_bounds s n _

theorem makeBond_bounds (s : State) (b : Nat) (ns : List Nat) (skew : Nat) : BoundsStep s (s.makeBond b ns skew) :=
  .of_frame (makeBond_frame s b ns skew) rfl

theorem freeBond_bounds (s : State) (b : Nat) (x : BondRec) : BoundsStep s (s.freeBond b x) := .of_frame (freeBond_frame s b x) rfl

theorem raiseMemberColumns_bounds (s : State) (ns : List Nat) : BoundsStep s (s.raiseMemberColumns ns) :=
  .of_frame (raiseMemberColumns_frame s ns) rfl

theorem serveBind_bounds (q : BindReq) (s : State) : BoundsStep s (serveBind q s).1 := by
  unfold serveBind
  dsimp only
  split
  · exact .refl s
  · split
    · exact .refl s
    · split
      · exact .refl s
      · exact (makeBond_bounds s _ _ _).trans (redigest_bounds _)

theorem serveUnbind_bounds (b : Nat) (s : State) : BoundsStep s (serveUnbind b s).1 := by
  cases found : s.bond? b with
  | none =>
    rw [serveUnbind_noSuch found]
    exact .refl s
  | some x =>
    cases refused : s.unbindCheck x with
    | some r =>
      rw [serveUnbind_refused found refused]
      exact .refl s
    | none =>
      rw [serveUnbind_taken found refused]
      have freed := (freeBond_bounds s b x).trans (redigest_bounds _)
      refine freed.trans (BoundsStep.trans ?_ (pass_bounds _))
      split
      · exact (raiseMemberColumns_bounds _ _).trans (reevalColumns_bounds _)
      · exact .refl _

/-! ## Every owner's step -/

/-- Every owner's step but that of SET PARAMETER is a BoundsStep. -/
theorem serve_bounds (l : Link) (r : Request) (s : State) (other : ∀ p v, r ≠ .setParameter p v) : BoundsStep s (serve l r s).1 := by
  cases r with
  | setParameter p v => exact absurd rfl (other p v)
  | configureSet q => exact serveConfigureSet_bounds q s
  | releaseSet n => exact serveReleaseSet_bounds n s
  | rehang q => exact serveRehang_bounds q s
  | bind q => exact serveBind_bounds q s
  | unbind b => exact serveUnbind_bounds b s
  | stop => exact serveStop_bounds s
  | holdAll => exact serveHoldAll_bounds s
  | holdClaim n => exact serveHoldClaim_bounds n s
  | releaseAll => exact serveReleaseAll_bounds s
  | resume => exact serveResume_bounds s
  | claim q => exact serveClaim_bounds l q s
  | retarget q => exact serveRetarget_bounds l q s
  | retire n => exact serveRetire_bounds l n s
  | releaseClaim n => exact serveReleaseClaim_bounds l n s
  | addKeepout q => exact serveAddKeepout_bounds q s
  | retireKeepout n => exact serveRetireKeepout_bounds n s
  | warmRestart => exact serveWarmRestart_bounds s
  | adopt n => exact serveAdopt_bounds l n s
  | openGroup q => exact serveOpenGroup_bounds l q s
  | closeGroup g => exact serveCloseGroup_bounds l g s
  | cancelGroup g => exact serveCancelGroup_bounds l g s
  | lockHang n => exact serveLockHang_bounds n s
  | unlockHang n => exact serveUnlockHang_bounds n s
  | reinstate n => exact serveReinstate_bounds n s
  | loopTest f => exact serveLoopTest_bounds f s
  | clearAttention q => exact serveClearAttention_bounds q s
  | clearFaults n => exact serveClearFaults_bounds n s
  | presence => exact .refl s
  | listClaims q => exact .refl s
  | lookupSet n => exact .refl s
  | readDigest => exact .refl s
  | readAttention => exact .refl s
  | lookupClaim n => exact onClaim_bounds s n _ fun _ => .refl s
  | lookupKeepout n => exact serveLookupKeepout_bounds n s
  | lookupGroup g => exact serveLookupGroup_bounds g s
  | lookupBond b => exact serveLookupBond_bounds b s
  | lookupSegment f => exact serveLookupSegment_bounds f s
  | lookupStation f a => exact serveLookupStation_bounds f a s
  | readParameter p => exact serveReadParameter_bounds p s

/-! ## SET PARAMETER (R178) -/

/-- A parameter set to a value in its range keeps the bounds. -/
theorem applyParam_keepsBounds {s : State} (h : AllBounded s) {p : Param} {v : Nat} (ok : valueOk p v = true) :
    AllBounded (applyParam p v s).1 := by
  cases p with
  | clearance =>
    obtain ⟨-, high⟩ := (between_iff 0 1000 v).1 ok
    show AllBounded (setClearance v s).1
    unfold setClearance
    split
    · exact h
    · split
      · exact h
      · exact { h with clearance := high }
  | nearFull => exact { h with nearFull := (between_iff 1 160 v).1 ok }
  | weight l =>
    refine { h with weights := fun k => ?_ }
    show 1 ≤ (s.weights.put l v).get k ∧ (s.weights.put l v).get k ≤ 8
    rw [PerLink.get_put]
    split
    · exact (between_iff 1 8 v).1 ok
    · exact h.weights k
  | pointer => exact h
  | served => exact h
  | drift => exact { h with drift := (between_iff 5 100 v).1 ok }
  | idleSlice f =>
    exact h.step (.of_bus s f (fun b => { b with idleSlice := v }) fun bounded => ⟨(between_iff 1 16 v).1 ok, bounded.misses⟩)
  | window l =>
    refine { h with links := fun k => ?_ }
    show LinkBounded ((s.updLink l fun x => { x with window := v }).link k)
    rw [link_updLink]
    split
    · exact ⟨(between_iff 100 1000 v).1 ok, (h.links l).ok⟩
    · exact h.links k
  | mode => exact { h with }
  | routing n => exact { h with }
  | enable n => exact { h with }

theorem serve_keepsBounds {s : State} (h : AllBounded s) (l : Link) {r : Request} (form : formOk r = true) :
    AllBounded (serve l r s).1 := by
  by_cases parameter : ∃ p v, r = .setParameter p v
  · obtain ⟨p, v, rfl⟩ := parameter
    obtain ⟨x, named, ok⟩ := (Option.any_eq_true _ _).1 form
    show AllBounded (serveSetParameter p v s).1
    unfold serveSetParameter
    rw [named]
    exact applyParam_keepsBounds h ok
  · exact h.step (serve_bounds l r s fun p v same => parameter ⟨p, v, same⟩)

end Sys2Proof.Machine
end

section
/-! PROOF. The bounds of parameters, counts and queues are kept by every step, and a link of role OFF stays idle (O58). -/

namespace Sys2Proof.Machine

/-! ## One link -/

/-- A link that is not OFF is bounded by its window and its queue alone (R170). -/
theorem linkBounded_of_on {x : LinkRec} (window : 100 ≤ x.window ∧ x.window ≤ 1000) (queue : x.queue.length ≤ 4)
    (on : x.role ≠ .off) : LinkBounded x := ⟨window, queue, fun off => absurd off on⟩

/-- A link that is not OFF, changed in neither role, window nor queue. -/
theorem LinkBounded.of_on {x y : LinkRec} (h : LinkBounded x) (on : x.role ≠ .off)
    (same : (y.role, y.window, y.queue) = (x.role, x.window, x.queue)) : LinkBounded y := by
  simp only [Prod.mk.injEq] at same
  obtain ⟨role, window, queue⟩ := same
  refine linkBounded_of_on ?_ ?_ ?_
  · rw [window]
    exact h.window
  · rw [queue]
    exact h.ok.1
  · rw [role]
    exact on

theorem LinkBounded.elapse {x : LinkRec} (h : LinkBounded x) (ms : Nat) : LinkBounded (x.elapse ms) := by
  refine ⟨h.window, h.ok.1, fun off => ?_⟩
  obtain ⟨layer0, layer1, posted, receiving, slot, response, queue, sending, presence, timer⟩ := h.ok.2 off
  exact ⟨layer0, layer1, posted, receiving, slot, response, queue, sending, presence, by rw [LinkRec.elapse, timer]; rfl⟩

/-! A link in use is not OFF (R166). -/

theorem LinkBounded.on_of_receiving {x : LinkRec} (h : LinkBounded x) (receiving : x.receiving ≠ none) : x.role ≠ .off := by
  intro off
  obtain ⟨-, -, -, idle, -⟩ := h.ok.2 off
  exact receiving idle

theorem LinkBounded.on_of_present {x : LinkRec} (h : LinkBounded x) (present : x.presence = .present) : x.role ≠ .off := by
  intro off
  obtain ⟨-, -, -, -, -, -, -, -, absent, -⟩ := h.ok.2 off
  rw [absent] at present
  cases present

theorem putLayer_same (x : LinkRec) (n : LayerName) (y : Layer) :
    ((x.putLayer n y).role, (x.putLayer n y).window, (x.putLayer n y).queue) = (x.role, x.window, x.queue) := by cases n <;> rfl

theorem fill_same (x : LinkRec) (d : Destination) : ((x.fill d).role, (x.fill d).window, (x.fill d).queue) = (x.role, x.window, x.queue) := by
  cases d with
  | layer n => exact putLayer_same x n _
  | overrun => rfl
  | slot => rfl

theorem discard_same (x : LinkRec) (d : Destination) :
    ((x.discard d).role, (x.discard d).window, (x.discard d).queue) = (x.role, x.window, x.queue) := by
  cases d with
  | layer n => exact putLayer_same x n _
  | overrun => rfl
  | slot => rfl

theorem LinkBounded.beginFrame {x : LinkRec} (h : LinkBounded x) (first : Byte) : LinkBounded (x.beginFrame first) := by
  unfold LinkRec.beginFrame
  split
  · exact h
  · rename_i idle
    exact h.of_on (fun off => idle (.inl off)) (fill_same x _)

/-- With nothing to send, as on a link of role OFF, no transmission begins. -/
theorem LinkBounded.startSending {x : LinkRec} (h : LinkBounded x) : LinkBounded x.startSending := by
  by_cases off : x.role = .off
  · obtain ⟨-, -, -, -, -, response, queue, sending, -⟩ := h.ok.2 off
    have still : x.startSending = x := by
      have nothing : x.nextSending = none := by rw [LinkRec.nextSending, response, queue]; rfl
      rw [LinkRec.startSending, sending, nothing, ← sending]
      exact ite_self x
    rw [still]
    exact h
  · unfold LinkRec.startSending
    split
    · exact h.of_on off rfl
    · exact h

theorem LinkBounded.endSending {x : LinkRec} (h : LinkBounded x) : LinkBounded x.endSending := by
  unfold LinkRec.endSending
  split
  · exact h
  · rename_i y sending
    have on : x.role ≠ .off := fun off => by
      obtain ⟨-, -, -, -, -, -, -, idle, -⟩ := h.ok.2 off
      rw [idle] at sending
      cases sending
    split
    · exact h.of_on on rfl
    · refine linkBounded_of_on h.window (Nat.le_trans ?_ h.ok.1) on
      rw [List.length_tail]
      exact Nat.sub_le _ _

/-! ## One link of the part -/

theorem AllBounded.updLink {s : State} (h : AllBounded s) (l : Link) {g : LinkRec → LinkRec} (bounded : LinkBounded (g (s.link l))) :
    AllBounded (s.updLink l g) := by
  refine { h with links := fun k => ?_ }
  rw [link_updLink]
  split
  · exact bounded
  · exact h.links k

/-- A response in its slot, on a link that is not OFF. -/
theorem slotReply_keepsBounds {p : State × Reply} {l : Link} (h : AllBounded p.1) (on : (p.1.link l).role ≠ .off) (k : Byte)
    (tag : Word16) (sup : Bool) : AllBounded (slotReply l k tag sup p) :=
  h.updLink l (g := fun r => { r with priorityResponse := some (p.1.response k tag sup p.2) }) ((h.links l).of_on on rfl)

/-- A response at the tail of a queue with a free entry, on a link that is not OFF. -/
theorem queueReply_keepsBounds {p : State × Reply} {l : Link} (h : AllBounded p.1) (on : (p.1.link l).role ≠ .off)
    (free : (p.1.link l).queue.length < 4) (k : Byte) (tag : Word16) : AllBounded (queueReply l k tag p) := by
  refine h.updLink l (g := fun r => { r with queue := r.queue ++ [p.1.response k tag false p.2] })
    (linkBounded_of_on (h.links l).window ?_ on)
  rw [List.length_append]
  exact free

/-! ## Requests taken -/

/-- What the owner's step leaves of every link: all but its window (R178). -/
def SameTraffic (x y : LinkRec) : Prop := y = { x with window := y.window }

theorem SameTraffic.role {x y : LinkRec} (h : SameTraffic x y) : y.role = x.role := by rw [h]
theorem SameTraffic.queue {x y : LinkRec} (h : SameTraffic x y) : y.queue = x.queue := by rw [h]

theorem applyParam_traffic (p : Param) (v : Nat) (s : State) (l : Link) : SameTraffic (s.link l) ((applyParam p v s).1.link l) := by
  cases p with
  | clearance =>
    show SameTraffic (s.link l) ((setClearance v s).1.link l)
    unfold setClearance
    split
    · rfl
    · split <;> rfl
  | window k =>
    show SameTraffic (s.link l) ((s.updLink k fun x => { x with window := v }).link l)
    rw [link_updLink]
    split
    · rename_i same
      rw [same]
      rfl
    · rfl
  | nearFull => rfl
  | weight k => rfl
  | pointer => rfl
  | served => rfl
  | drift => rfl
  | idleSlice f => rfl
  | mode => rfl
  | routing n => rfl
  | enable n => rfl

theorem serve_traffic (l : Link) (r : Request) (s : State) (k : Link) : SameTraffic (s.link k) ((serve l r s).1.link k) := by
  by_cases parameter : ∃ p v, r = .setParameter p v
  · obtain ⟨p, v, rfl⟩ := parameter
    show SameTraffic (s.link k) ((serveSetParameter p v s).1.link k)
    unfold serveSetParameter
    split
    · rfl
    · exact applyParam_traffic _ v s k
  · rw [link_congr (serve_bounds l r s fun p v same => parameter ⟨p, v, same⟩).links]
    rfl

/-- What a request answered by its owner keeps. -/
structure AnswerKeeps (s t : State) : Prop where
  bounds : AllBounded s → AllBounded t
  traffic : ∀ k, SameTraffic (s.link k) (t.link k)

theorem AnswerKeeps.refl (s : State) : AnswerKeeps s s := ⟨id, fun _ => rfl⟩

theorem answer_keeps (l : Link) (r : Request) (s : State) : AnswerKeeps s (answer l r s).1 := by
  unfold answer
  split
  · exact .refl s
  · split
    · exact .refl s
    · rename_i form
      exact ⟨fun h => serve_keepsBounds h l (by simpa using form), serve_traffic l r s⟩

theorem answerFrame_keeps (l : Link) (x : Frame) (s : State) : AnswerKeeps s (answerFrame l x s).1 := by
  unfold answerFrame
  split
  · exact .refl s
  · split
    · exact .refl s
    · split
      · exact .refl s
      · exact answer_keeps l _ s

theorem canQueue_iff (x : LinkRec) : x.canQueue = true ↔ x.role ≠ .off ∧ x.queue.length < 4 := by
  simp [LinkRec.canQueue, Config.queueDepth]

theorem canAnswer_iff (x : LinkRec) : x.canAnswer = true ↔ x.role ≠ .off ∧ x.priorityResponse = none := by
  simp [LinkRec.canAnswer]

/-- An answer queued on a link that could take it before the owner's step. -/
theorem AnswerKeeps.queueReply {s : State} {p : State × Reply} (k : AnswerKeeps s p.1) (h : AllBounded s) {l : Link}
    (on : (s.link l).role ≠ .off) (free : (s.link l).queue.length < 4) (kind : Byte) (tag : Word16) :
    AllBounded (queueReply l kind tag p) := by
  refine queueReply_keepsBounds (k.bounds h) ?_ ?_ kind tag
  · rw [(k.traffic l).role]
    exact on
  · rw [(k.traffic l).queue]
    exact free

theorem AnswerKeeps.slotReply {s : State} {p : State × Reply} (k : AnswerKeeps s p.1) (h : AllBounded s) {l : Link}
    (on : (s.link l).role ≠ .off) (kind : Byte) (tag : Word16) (sup : Bool) : AllBounded (slotReply l kind tag sup p) :=
  slotReply_keepsBounds (k.bounds h) (by rw [(k.traffic l).role]; exact on) kind tag sup

theorem takeRegular_keepsBounds {s : State} (h : AllBounded s) (l : Link) (tag : Word16) (r : Request) :
    AllBounded (takeRegular l tag r s) := by
  unfold takeRegular
  split
  · rename_i able
    obtain ⟨on, free⟩ := (canQueue_iff _).1 able
    exact (answer_keeps l r s).queueReply h on free _ tag
  · exact h

theorem takePriority_keepsBounds {s : State} (h : AllBounded s) (l : Link) (tag : Word16) (r : Request) :
    AllBounded (takePriority l tag r s) := by
  unfold takePriority
  split
  · rename_i able
    exact (answer_keeps l r s).slotReply h ((canAnswer_iff _).1 able).1 _ tag false
  · exact h

theorem takeSlot_keepsBounds {s : State} (h : AllBounded s) (l : Link) : AllBounded (s.takeSlot l) := by
  unfold State.takeSlot
  split
  · exact h
  · split
    · rename_i able
      have on := ((canAnswer_iff _).1 able).1
      have emptied : AllBounded (s.updLink l fun r => { r with slot := none }) := h.updLink l ((h.links l).of_on on rfl)
      refine (answerFrame_keeps l _ _).slotReply emptied ?_ _ _ _
      rw [link_updLink_self]
      exact on
    · exact h

theorem takePosted_keepsBounds {s : State} (h : AllBounded s) (l : Link) : AllBounded (s.takePosted l) := by
  unfold State.takePosted
  split
  · exact h
  · rename_i n ns order
    split
    · split
      · rename_i able
        obtain ⟨on, free⟩ := (canQueue_iff _).1 able
        have same := putLayer_same (s.link l) n .free
        have emptied : AllBounded (s.updLink l fun r => { r.putLayer n .free with posted := ns }) :=
          h.updLink l ((h.links l).of_on on same)
        simp only [Prod.mk.injEq] at same
        obtain ⟨role, -, queue⟩ := same
        refine (answerFrame_keeps l _ _).queueReply emptied ?_ ?_ _ _
        · rw [link_updLink_self]
          exact role ▸ on
        · rw [link_updLink_self]
          exact queue ▸ free
      · exact h
    · exact h
    · exact h

theorem unknownRequest_keepsBounds {s : State} (h : AllBounded s) (l : Link) (tag : Word16) (k : Byte) :
    AllBounded (if (s.link l).canQueue && !namesRequest k then queueReply l k tag (s, Reply.of .malformed) else s) := by
  split
  · rename_i able
    obtain ⟨on, free⟩ := (canQueue_iff _).1 (Bool.and_eq_true_iff.1 able).1
    exact queueReply_keepsBounds (p := (s, _)) h on free k tag
  · exact h

/-! ## Frames and presence -/

/-- A presence event leaves the link's role as it is. -/
theorem presenceEvent_keepsBounds {s : State} (h : AllBounded s) {l : Link} (on : (s.link l).role ≠ .off) :
    AllBounded (s.presenceEvent l) ∧ ((s.presenceEvent l).link l).role ≠ .off := by
  have present : AllBounded (s.updLink l LinkRec.present) := h.updLink l ((h.links l).of_on on rfl)
  have stays : ((s.updLink l LinkRec.present).link l).role ≠ .off := by
    rw [link_updLink_self]
    exact on
  unfold State.presenceEvent
  dsimp only
  split
  · have regained : BoundsStep (s.updLink l LinkRec.present) ((s.updLink l LinkRec.present).regained l) :=
      (mapClaims_bounds _ _).trans ((settle_bounds _).trans (pass_bounds _))
    refine ⟨present.step regained, ?_⟩
    rw [link_congr regained.links]
    exact stays
  · exact ⟨present, stays⟩

theorem placeFrame_keepsBounds {s : State} (h : AllBounded s) {l : Link} (on : (s.link l).role ≠ .off) (d : Destination) (r : Frame) :
    AllBounded (s.placeFrame l d r) := by
  cases d with
  | layer n => exact h.updLink l (g := fun x => x.post n r) ((h.links l).of_on on (putLayer_same _ n _))
  | overrun => exact h.step (latch_bounds _ s)
  | slot => exact takeSlot_keepsBounds (h.updLink l ((h.links l).of_on on rfl)) l

theorem frameEnd_keepsBounds {s : State} (h : AllBounded s) (l : Link) (rest : List Byte) (e : Bool) :
    AllBounded (s.frameEnd l rest e) := by
  unfold State.frameEnd
  split
  · exact h
  · rename_i x receiving
    have on := (h.links l).on_of_receiving (by rw [receiving]; exact Option.some_ne_none x)
    have received : AllBounded (s.updLink l fun r => { r with receiving := none }) := h.updLink l ((h.links l).of_on on rfl)
    have stays : ((s.updLink l fun r => { r with receiving := none }).link l).role ≠ .off := by
      rw [link_updLink_self]
      exact on
    dsimp only
    split
    · obtain ⟨event, still⟩ := presenceEvent_keepsBounds received stays
      exact placeFrame_keepsBounds event still _ _
    · exact received.updLink l ((received.links l).of_on stays (discard_same _ _))

theorem elapse_keepsBounds {s : State} (h : AllBounded s) (ms : Nat) : AllBounded (s.elapse ms) := by
  refine { h with links := fun l => ?_ }
  rw [elapse_link]
  exact (h.links l).elapse ms

theorem presenceExpiry_keepsBounds {s : State} (h : AllBounded s) (l : Link) : AllBounded (s.presenceExpiry l) := by
  unfold State.presenceExpiry
  split
  · exact h
  · rename_i t running
    have present : (s.link l).presence = .present := by
      unfold LinkRec.runningTimer at running
      split at running
      · assumption
      · cases running
    have passed := elapse_keepsBounds h (t.window - t.elapsed)
    have on : ((s.elapse (t.window - t.elapsed)).link l).role ≠ .off := by
      rw [elapse_link]
      exact (h.links l).on_of_present present
    have lost : AllBounded ((s.elapse (t.window - t.elapsed)).updLink l LinkRec.lose) := passed.updLink l ((passed.links l).of_on on rfl)
    exact lost.step ((holdWhere_bounds _ _ _).trans ((regroup_bounds _).trans (latch_bounds _ _)))

/-! ## Reports at the Set Registry and the Travel Monitor -/

theorem registryReport_bounds (s : State) (n : Nat) (r : Report) : BoundsStep s (s.registryReport n r) := by
  unfold State.registryReport
  split
  · exact .refl s
  · exact (updSet_bounds s n _).trans (stateNotices_bounds s _ _)

theorem takeReport_bounds (s : State) (n : Nat) (r : Report) : BoundsStep s (s.takeReport n r) :=
  (registryReport_bounds s n r).trans (passIf_bounds _ _)

theorem afterSetChange_bounds (before s : State) (n : Nat) : BoundsStep s (State.afterSetChange before s n) :=
  (stateNotices_bounds before _ s).trans (passIf_bounds _ _)

theorem registryIdent_bounds (s : State) (n k : Nat) : BoundsStep s (s.registryIdent n k) :=
  (updSet_bounds s n _).trans (afterSetChange_bounds s _ n)

theorem staleFinding_bounds (s : State) (n : Nat) : BoundsStep s (s.staleFinding n) := by
  unfold State.staleFinding
  split
  · exact faultClaim_bounds s _ _
  · exact (updSet_bounds s n _).trans (afterSetChange_bounds s _ n)

theorem takeStep_bounds (s : State) (c : ClaimRec) (n : Nat) (k : Content) (takes : Bool) : BoundsStep s (s.takeStep c n k takes) := by
  unfold State.takeStep
  split
  · dsimp only
    split
    · split
      · exact (updClaim_bounds s _ _).trans (updClaim_bounds _ _ _)
      · exact updClaim_bounds s _ _
    · split
      · exact (updClaim_bounds s _ _).trans (faultClaim_bounds _ _ _)
      · exact updClaim_bounds s _ _
  · exact .refl s

theorem arrival_bounds (s : State) (c : ClaimRec) : BoundsStep s (s.arrival c) := by
  unfold State.arrival
  split
  · exact (updClaim_bounds s _ _).trans ((groupDrop_bounds _ c).trans (regroup_bounds _))
  · exact removeLive_bounds s c _

theorem stallProgress_bounds (s : State) (c : ClaimRec) : BoundsStep s (s.stallProgress c) := by
  unfold State.stallProgress
  split
  · exact updClaim_bounds s _ _
  · exact .refl s

theorem stopStep_bounds (s : State) (c : ClaimRec) (r : Report) (fresh : Bool) : BoundsStep s (s.stopStep c r fresh) := by
  unfold State.stopStep
  split
  · exact faultClaim_bounds s c _
  · exact .refl s

theorem progress_bounds (s : State) (c : ClaimRec) (n : Nat) (k : Content) (r : Report) (fresh takes : Bool) :
    BoundsStep s (s.progress c n k r fresh takes).1 := by
  unfold State.progress
  cases c.state with
  | granted => exact takeStep_bounds s c n k takes
  | moving =>
    dsimp only
    split
    · exact arrival_bounds s c
    · exact stallProgress_bounds s c
  | held => exact (takeStep_bounds s c n k takes).trans (stopStep_bounds _ c r fresh)
  | retiring =>
    dsimp only
    split
    · exact removeLive_bounds s c _
    · exact stopStep_bounds s c r fresh
  | waiting => exact .refl s
  | arrived => exact .refl s
  | standing => exact .refl s
  | faulted => exact .refl s

theorem supervise_bounds (s : State) (c : ClaimRec) (x : TravelNote) (r : Report) (fresh : Bool) :
    BoundsStep s (s.supervise c x r fresh).1 := by
  unfold State.supervise
  dsimp only
  split
  · exact (updClaim_bounds s _ _).trans (faultClaim_bounds _ _ _)
  · exact (updClaim_bounds s _ _).trans (progress_bounds _ _ _ _ _ _ _)

theorem forward_bounds (p : State × Bool) (n : Nat) (r : Report) : BoundsStep p.1 (State.forward p n r) :=
  (registryReport_bounds p.1 n r).trans (passIf_bounds _ _)

theorem travel_bounds (s : State) (x : TravelNote) (fresh : Bool) : BoundsStep s (s.travel x fresh) := by
  unfold State.travel
  split
  · exact .refl s
  · exact takeReport_bounds s _ _
  · unfold State.travelMiss
    split
    · exact takeStep_bounds s _ _ _ _
    · exact .refl s
  · split
    · exact forward_bounds (s, false) _ _
    · exact (supervise_bounds s _ x _ fresh).trans (forward_bounds _ _ _)

theorem freshCleared_bounds (s : State) (n : Nat) : BoundsStep s (s.freshCleared n) := by
  unfold State.freshCleared
  split
  · exact .refl s
  · exact updClaim_bounds s _ _

/-! ## Polls, breaks and loop tests -/

/-- Building a poll changes its station's toggle and content, no miss count. -/
theorem build_bounded {b : Bus} (h : BusBounded b) (t : Turn) (n : Nat) (k : Content) : BusBounded (b.build t n k) := by
  have polled := h.putStation t.address
    (x := { b.station t.address with toggle := (b.station t.address).nextToggle k, lastContent := some k }) (h.misses t.address)
  exact polled.congr rfl rfl

theorem pollBuild_bounds (s : State) (f : Segment) : BoundsStep s (s.pollBuild f) := by
  unfold State.pollBuild
  dsimp only
  split
  · split
    · exact .refl s
    · rename_i t next
      split
      · exact .refl s
      · rename_i n configured
        exact .of_bus s f (fun b => b.build t n (s.contentFor n)) fun h => build_bounded h t n _
  · exact .refl s

/-- The miss count of a station stops at three (R108). -/
theorem miss_count (x : Station) (k : MissKind) : (x.miss k).missCount ≤ 3 := Nat.min_le_left _ _

theorem endPoll_bounded {b : Bus} (h : BusBounded b) (p : Poll) : BusBounded (b.endPoll p) := h.congr rfl rfl

theorem judgeMiss_bounds (s : State) (f : Segment) (p : Poll) (k : MissKind) : BoundsStep s (s.judgeMiss f p k) := by
  have missed : ∀ live cleared, BoundsStep s (s.updBus f fun b =>
      ((b.endPoll p).putStation p.address (((s.bus f).station p.address).miss k)).handMiss p k live cleared) := fun live cleared =>
    .of_bus s f _ fun h => ((endPoll_bounded h p).putStation p.address (miss_count _ k)).congr rfl rfl
  unfold State.judgeMiss
  dsimp only
  split
  · exact (missed _ _).trans (staleFinding_bounds _ _)
  · exact missed _ _

theorem onPoll_bounds (s : State) (f : Segment) (g : Poll → State) (h : ∀ p, BoundsStep s (g p)) : BoundsStep s (s.onPoll f g) := by
  unfold State.onPoll
  split
  · split
    · exact .of_bus s f (fun b => b.endPoll _) fun bounded => endPoll_bounded bounded _
    · exact h _
  all_goals exact .refl s

theorem accept_bounded {b : Bus} (h : BusBounded b) (p : Poll) (live : Bool) (r : WireReport) : BusBounded (b.accept p live r) := by
  cases r <;> exact ((endPoll_bounded h p).putStation p.address (Nat.zero_le 3)).congr rfl rfl

theorem missPoll_bounds (s : State) (f : Segment) (k : MissKind) : BoundsStep s (s.missPoll f k) :=
  onPoll_bounds s f _ fun p => judgeMiss_bounds s f p k

theorem reportComplete_bounds (s : State) (f : Segment) (r : WireReport) : BoundsStep s (s.reportComplete f r) :=
  onPoll_bounds s f _ fun p => by
    split
    · exact judgeMiss_bounds s f p _
    · exact .of_bus s f _ fun h => accept_bounded h p _ r

theorem takeOutcome_bounds (s : State) (f : Segment) : BoundsStep s (s.takeOutcome f) := by
  unfold State.takeOutcome
  split
  · exact .refl s
  · rename_i x xs _
    exact (BoundsStep.of_records s f (fun b => { b with outcomes := xs }) fun _ => ⟨rfl, rfl⟩).trans (putFaultSummary_bounds _ _ _)

theorem takeSetReport_bounds (s : State) (f : Segment) : BoundsStep s (s.takeSetReport f) := by
  unfold State.takeSetReport
  split
  · exact .refl s
  · rename_i x xs _
    exact (BoundsStep.of_records s f (fun b => { b with setReports := xs }) fun _ => ⟨rfl, rfl⟩).trans (takeReport_bounds _ _ _)

theorem takeIdent_bounds (s : State) (f : Segment) : BoundsStep s (s.takeIdent f) := by
  unfold State.takeIdent
  split
  · exact .refl s
  · rename_i x xs _
    exact (BoundsStep.of_records s f (fun b => { b with identReports := xs }) fun _ => ⟨rfl, rfl⟩).trans (registryIdent_bounds _ _ _)

theorem takeTravel_bounds (s : State) (f : Segment) : BoundsStep s (s.takeTravel f) := by
  unfold State.takeTravel
  split
  · exact .refl s
  · rename_i x xs _
    exact (BoundsStep.of_records s f (fun b => { b with tmOutcomes := xs }) fun _ => ⟨rfl, rfl⟩).trans (travel_bounds _ _ _)

theorem takeFreshNotice_bounds (s : State) (f : Segment) : BoundsStep s (s.takeFreshNotice f) := by
  unfold State.takeFreshNotice
  split
  · exact .refl s
  · rename_i x xs _
    exact (BoundsStep.of_records s f (fun b => { b with freshNotices := xs }) fun _ => ⟨rfl, rfl⟩).trans (freshCleared_bounds _ _)

theorem breakDetected_bounds (s : State) (f : Segment) : BoundsStep s (s.breakDetected f) := by
  unfold State.breakDetected
  split
  · have broken : BoundsStep s (s.updBus f Bus.enterBroken) := .of_records s f _ fun _ => ⟨rfl, rfl⟩
    exact broken.trans ((holdWhere_bounds _ _ _).trans ((regroup_bounds _).trans (latch_bounds _ _)))
  · exact .refl s

theorem breakEnd_bounds (s : State) (f : Segment) : BoundsStep s (s.breakEnd f) := by
  unfold State.breakEnd
  split
  · refine ((clearSegment_bounds s f).trans ?_).trans ((mapClaims_bounds _ _).trans ((settle_bounds _).trans (passIf_bounds _ _)))
    split
    · exact enterIdle_bounds _ f
    · exact enterPolling_bounds _ f
  · exact .refl s

theorem loopEnd_bounds (s : State) (f : Segment) (x : LoopRun) : BoundsStep s (s.loopEnd f x) := by
  have ended : BoundsStep s (s.updBus f fun b => { b with loop := none, loopResult := some x.result }) :=
    .of_records s f _ fun _ => ⟨rfl, rfl⟩
  exact ended.trans ((clearSegment_bounds _ f).trans ((enterPolling_bounds _ f).trans ((latch_bounds _ _).trans (pass_bounds _))))

theorem testFrame_bounds (s : State) (f : Segment) (returned : List (Option LineChar)) : BoundsStep s (s.testFrame f returned) := by
  unfold State.testFrame
  split
  · exact .refl s
  · split
    · exact .refl s
    · dsimp only
      split
      · exact loopEnd_bounds s f _
      · exact .of_records s f _ fun _ => ⟨rfl, rfl⟩

theorem channelEvent_bounds (s : State) (c : Channel) (low : Bool) : BoundsStep s (s.channelEvent c low) := by
  have changed := updStop_bounds s fun x => x.putChannel c low
  unfold State.channelEvent
  split
  · exact .refl s
  · dsimp only
    split
    · split
      · exact changed
      · exact changed.trans (enterStopped_bounds _)
    · split
      · exact changed.trans (updStop_bounds _ _)
      · exact changed

/-! ## Timers run out -/

/-- Time that passes, and then a step. -/
theorem AllBounded.expire {s t : State} (h : AllBounded s) (ms : Nat) (k : BoundsStep (s.elapse ms) t) : AllBounded t :=
  (elapse_keepsBounds h ms).step k

theorem stallExpiry_keepsBounds {s : State} (h : AllBounded s) (n : Nat) : AllBounded (s.stallExpiry n) := by
  unfold State.stallExpiry
  split
  · exact h
  · split
    · exact h
    · exact h.expire _ (faultClaim_bounds _ _ _)

theorem stopRunOut_keepsBounds {s : State} (h : AllBounded s) (n : Nat) : AllBounded (s.stopRunOut n) := by
  unfold State.stopRunOut
  split
  · exact h
  · split
    · exact h
    · dsimp only
      split
      · exact h.expire _ ((updClaim_bounds _ n _).trans (faultClaim_bounds _ _ _))
      · exact h.expire _ (updClaim_bounds _ n _)

theorem deadlineExpiry_keepsBounds {s : State} (h : AllBounded s) (n : Nat) : AllBounded (s.deadlineExpiry n) := by
  unfold State.deadlineExpiry
  split
  · exact h
  · split
    · exact h
    · exact h.expire _ ((updClaim_bounds _ n _).trans (latch_bounds _ _))

theorem waitExpiry_keepsBounds {s : State} (h : AllBounded s) (n : Nat) : AllBounded (s.waitExpiry n) := by
  unfold State.waitExpiry
  split
  · exact h
  · split
    · exact h
    · exact h.expire _ ((removeWaiting_bounds _ _).trans (latch_bounds _ _))

theorem groupExpiry_keepsBounds {s : State} (h : AllBounded s) (g : Nat) : AllBounded (s.groupExpiry g) := by
  unfold State.groupExpiry
  split
  · exact h
  · split
    · exact h
    · exact h.expire _ ((dissolveGroup_bounds _ g _).trans (latch_bounds _ _))

theorem discrepancyExpiry_keepsBounds {s : State} (h : AllBounded s) : AllBounded s.discrepancyExpiry := by
  unfold State.discrepancyExpiry
  split
  · exact h
  · exact h.expire _ ((updStop_bounds _ _).trans (latch_bounds _ _))

/-! ## Every step -/

theorem exec_keepsBounds {s t : State} (h : AllBounded s) (i : Instr) (step : exec i s = .next t) : AllBounded t := by
  cases i <;> cases step
  case unknownRequest l tag k => exact unknownRequest_keepsBounds h l tag k
  case deskFrameBegin l b => exact h.updLink l ((h.links l).beginFrame b)
  case deskFrameEnd l rest e => exact frameEnd_keepsBounds h l rest e
  case postedRequestTaken l => exact takePosted_keepsBounds h l
  case priorityRequestTaken l => exact takeSlot_keepsBounds h l
  case responseTransmitStart l => exact h.updLink l (h.links l).startSending
  case responseTransmitEnd l => exact h.updLink l (h.links l).endSending
  case presenceWindowExpiry l => exact presenceExpiry_keepsBounds h l
  case pollBuild f => exact h.step (pollBuild_bounds s f)
  case responseWindowExpiry f => exact h.step (missPoll_bounds s f _)
  case reportGapExpiry f => exact h.step (missPoll_bounds s f _)
  case reportComplete f r => exact h.step (reportComplete_bounds s f r)
  case reportUnreadable f why => exact h.step (missPoll_bounds s f _)
  case setReport f => exact h.step (takeSetReport_bounds s f)
  case identReport f => exact h.step (takeIdent_bounds s f)
  case faultSummaryOutcome f => exact h.step (takeOutcome_bounds s f)
  case tmPollOutcome f => exact h.step (takeTravel_bounds s f)
  case freshFlagClearedNotice f => exact h.step (takeFreshNotice_bounds s f)
  case stallTimerExpiry n => exact stallExpiry_keepsBounds h n
  case stopWindowRunOut n => exact stopRunOut_keepsBounds h n
  case deadlineExpiry n => exact deadlineExpiry_keepsBounds h n
  case waitLimitExpiry n => exact waitExpiry_keepsBounds h n
  case groupWaitLimitExpiry g => exact groupExpiry_keepsBounds h g
  case estopChannelEvent c low => exact h.step (channelEvent_bounds s c low)
  case discrepancyTimerExpiry => exact discrepancyExpiry_keepsBounds h
  case breakDetected f => exact h.step (breakDetected_bounds s f)
  case breakEnd f => exact h.step (breakEnd_bounds s f)
  case testFrameCompared f cs => exact h.step (testFrame_bounds s f cs)
  case coldReset p => exact (bounds_iff _).1 (coldReset_bounds p s.pending)
  case presence l tag => exact takePriority_keepsBounds h l tag _
  case stop l tag => exact takePriority_keepsBounds h l tag _
  case holdAll l tag => exact takePriority_keepsBounds h l tag _
  case holdClaim l tag n => exact takePriority_keepsBounds h l tag _
  all_goals exact takeRegular_keepsBounds h _ _ _

theorem withPending_bounds (s : State) (waiting : List Instr) : BoundsStep s (s.withPending waiting) := .of_frame rfl rfl

/-- Settles O58: time, a link event and a reply keep each link in its bounds, SET PARAMETER each parameter in its range, and every other
owner's step is a BoundsStep. -/
theorem boundsKept : Obligations.BoundsKept := by
  intro s t bounds st
  rw [bounds_iff] at bounds ⊢
  unfold Machine.step at st
  split at st
  · cases st
    exact elapse_keepsBounds bounds 1
  · exact exec_keepsBounds (bounds.step (withPending_bounds s _)) _ st

end Sys2Proof.Machine
end

section
/-! PROOF. What a link answers itself: a request its role does not permit, one in bad form, one from a link of role OFF, and a kind that names no request (O4, O5). -/

namespace Sys2Proof.Machine

/-! ## The row of a request -/

/-- The taking of a request: the kinds 1 to 4 go to the priority response slot, the others to the response queue (R170, R171). -/
def takeRequest (l : Link) (tag : Word16) (r : Request) (s : State) : State :=
  if kindOf r ≤ 4 then takePriority l tag r s else takeRegular l tag r s

theorem exec_request {i : Instr} {l : Link} {tag : Word16} {r : Request} (s : State) (row : requestOf i = some (l, tag, r)) :
    exec i s = .next (takeRequest l tag r s) := by
  cases i <;> cases row <;> rfl

theorem takeRequest_priority {r : Request} (priority : kindOf r ≤ 4) (l : Link) (tag : Word16) (s : State) :
    takeRequest l tag r s = takePriority l tag r s := if_pos priority

theorem takeRequest_regular {r : Request} (regular : ¬ kindOf r ≤ 4) (l : Link) (tag : Word16) (s : State) :
    takeRequest l tag r s = takeRegular l tag r s := if_neg regular

/-! ## Refusals by role and form -/

theorem canQueue_of_on {x : LinkRec} (on : x.role ≠ .off) (free : x.queue.length < 4) : x.canQueue = true :=
  (canQueue_iff x).2 ⟨on, free⟩

theorem canAnswer_of_on {x : LinkRec} (on : x.role ≠ .off) (free : x.priorityResponse = none) : x.canAnswer = true :=
  (canAnswer_iff x).2 ⟨on, free⟩

/-- A request whose answer changes no record, on a link that can take the response. -/
theorem exec_answered {i : Instr} {l : Link} {tag : Word16} {r : Request} {s : State} {y : Reply} (row : requestOf i = some (l, tag, r))
    (on : (s.link l).role ≠ .off) (queue : (s.link l).queue.length < 4) (slot : (s.link l).priorityResponse = none)
    (answered : answer l r s = (s, y)) : ∃ t, exec i s = .next t ∧
      if kindOf r ≤ 4 then AnswerOnlyNow s t l (kindOf r) tag y else AnswerOnly s t l (kindOf r) tag y := by
  refine ⟨_, exec_request s row, ?_⟩
  by_cases priority : kindOf r ≤ 4
  · rw [if_pos priority, takeRequest_priority priority, takePriority, if_pos (canAnswer_of_on on slot), answered]
    exact answerOnlyNow_slotReply s l _ tag y
  · rw [if_neg priority, takeRequest_regular priority, takeRegular, if_pos (canQueue_of_on on queue), answered]
    exact answerOnly_queueReply s l _ tag y

theorem answer_notPermitted {l : Link} {r : Request} {s : State} (barred : (s.link l).role.permits (kindOf r) = false) :
    answer l r s = (s, Reply.of .notPermitted) := by
  rw [answer, barred]
  rfl

theorem answer_malformed {l : Link} {r : Request} {s : State} (permitted : (s.link l).role.permits (kindOf r) = true)
    (bad : formOk r = false) : answer l r s = (s, Reply.of .malformed) := by
  rw [answer, permitted, bad]
  rfl

theorem hold_permits (k : Nat) : Role.hold.permits k = decide (k ∈ [1, 2, 3, 4, 26, 27, 28, 32, 41, 42, 43, 45, 46, 49, 51]) := by
  rw [Role.permits, lookupKinds, ← Bool.decide_or]
  refine decide_eq_decide.2 ?_
  simp only [List.mem_cons, List.not_mem_nil, or_false]
  omega

/-- Settles O4, by the role table of R167: the kinds the two smaller roles permit are the ones listed. -/
theorem refusedUnread : Obligations.RefusedUnread := by
  intro i l tag r s row queue slot
  refine ⟨fun barred => ?_, fun full bad => ?_⟩
  · obtain ⟨lookup, unlisted⟩ | ⟨hold, unlisted⟩ := barred
    · refine exec_answered row (by rw [lookup]; exact nofun) queue slot (answer_notPermitted ?_)
      rw [lookup]
      exact decide_eq_false unlisted
    · refine exec_answered row (by rw [hold]; exact nofun) queue slot (answer_notPermitted ?_)
      rw [hold, hold_permits]
      exact decide_eq_false unlisted
  · exact exec_answered row (by rw [full]; exact nofun) queue slot (answer_malformed (by rw [full]; rfl) bad)

/-! ## A link of role OFF, and unknown kinds -/

/-- A change of a link that leaves its record as it is. -/
theorem updLink_fixed {s : State} {l : Link} {g : LinkRec → LinkRec} (fixed : g (s.link l) = s.link l) : s.updLink l g = s := by
  have kept : s.links.put l (g (s.link l)) = s.links := by
    rw [fixed]
    exact PerLink.put_get s.links l
  show { s with links := s.links.put l (g (s.link l)) } = s
  rw [kept]

theorem takeRequest_off {l : Link} {s : State} (off : (s.link l).role = .off) (tag : Word16) (r : Request) :
    takeRequest l tag r s = s := by
  have noQueue : (s.link l).canQueue = false := by simp [LinkRec.canQueue, off]
  have noAnswer : (s.link l).canAnswer = false := by simp [LinkRec.canAnswer, off]
  unfold takeRequest takePriority takeRegular
  rw [noQueue, noAnswer]
  exact ite_self s

theorem namesRequest_iff (k : Byte) : namesRequest k = true ↔ 1 ≤ k.toNat ∧ k.toNat ≤ 4 ∨ 16 ≤ k.toNat ∧ k.toNat ≤ 51 := by
  simp [namesRequest, priorityKind]

theorem byteOf_toNat (k : Byte) : byteOf k.toNat = k := BitVec.ofNat_toNat 8 k

/-- Settles O5: a link of role OFF has room for no answer and begins no frame; the row of an unknown kind answers by itself. -/
theorem linkAnswersItself : Obligations.LinkAnswersItself := by
  refine ⟨fun i l tag r s row off => ?_, fun l b s off => ?_, fun l tag k s desk unknown => ?_⟩
  · rw [exec_request s row, takeRequest_off off]
  · have idle : (s.link l).beginFrame b = s.link l := if_pos (.inl off)
    exact congrArg Host.Outcome.next (updLink_fixed idle)
  · have nameless : namesRequest k = false := by
      refine Bool.eq_false_iff.2 fun named => ?_
      have := (namesRequest_iff k).1 named
      omega
    refine ⟨queueReply l k tag (s, Reply.of .malformed), ?_, ?_⟩
    · show Host.Outcome.next (if (s.link l).canQueue && !namesRequest k then _ else s) = _
      rw [canQueue_of_openDesk desk, nameless]
      rfl
    · have answered := answerOnly_queueReply s l k.toNat tag (Reply.of .malformed)
      rwa [byteOf_toNat] at answered

end Sys2Proof.Machine
end

section
/-! PROOF. The frames of a desk link, good and bad, and its transmissions (O11, O12, O13, O14, O15, O17). -/

namespace Sys2Proof.Machine

/-! ## Changes of one link -/

theorem links_updLink (s : State) (l : Link) (g : LinkRec → LinkRec) : (s.updLink l g).links = s.links.put l (g (s.link l)) := rfl

theorem updLink_updLink (s : State) (l : Link) (g h : LinkRec → LinkRec) : (s.updLink l g).updLink l h = s.updLink l (h ∘ g) := by
  show ({ s with links := (s.links.put l (g (s.link l))).put l (h ((s.updLink l g).link l)) } : State) = _
  rw [PerLink.put_put, link_updLink_self]
  rfl

/-- A row that changes its link alone completes, and the link's record is the changed one. -/
theorem exec_updLink {i : Instr} {l : Link} {s : State} {g : LinkRec → LinkRec} {x : LinkRec} (row : exec i s = .next (s.updLink l g))
    (changed : g (s.link l) = x) : ∃ t, exec i s = .next t ∧ t = { s with links := t.links } ∧ t.links = s.links.put l x :=
  ⟨_, row, rfl, changed ▸ rfl⟩

/-! ## The begin of a frame -/

theorem priorityKind_iff (b : Byte) : priorityKind b = true ↔ 1 ≤ b.toNat ∧ b.toNat ≤ 4 := by simp [priorityKind]

theorem beginFrame_eq {x : LinkRec} (on : x.role ≠ .off) (idle : x.receiving = none) (b : Byte) : x.beginFrame b =
    { x.fill (x.destination b) with receiving := some { first := b, dest := x.destination b } } := by
  refine if_neg ?_
  rintro (off | busy)
  · exact on off
  · rw [idle] at busy
    exact Bool.false_ne_true busy

/-- Settles O11, along the destinations of a frame. -/
theorem frameBegins : Obligations.FrameBegins := by
  intro l b s on idle
  refine ⟨s.updLink l fun x => x.beginFrame b, rfl, rfl, (s.link l).beginFrame b, rfl, ?_⟩
  rw [beginFrame_eq on idle, LinkRec.destination]
  simp only [priorityKind_iff]
  split
  · rfl
  · split
    · rfl
    · split <;> rfl

/-! ## Transmission -/

theorem startSending_free {x : LinkRec} (free : x.sending = none) : x.startSending = { x with sending := x.nextSending } := by
  rw [LinkRec.startSending, free]
  rfl

theorem startSending_busy {x : LinkRec} {y : Sending} (busy : x.sending = some y) : x.startSending = x := by
  rw [LinkRec.startSending, busy]
  rfl

/-- Settles O17, by the state of the transmitter. -/
theorem transmission : Obligations.Transmission := by
  refine ⟨fun l s free => exec_updLink (g := LinkRec.startSending) rfl ?_,
    fun l y s busy => congrArg Host.Outcome.next (updLink_fixed (startSending_busy busy)),
    fun l y s busy => exec_updLink (g := LinkRec.endSending) rfl ?_⟩
  · refine (startSending_free free).trans (congrArg (fun y => ({ s.link l with sending := y } : LinkRec)) ?_)
    unfold LinkRec.nextSending
    cases (s.link l).priorityResponse with
    | some r => rfl
    | none => cases (s.link l).queue <;> rfl
  · rw [LinkRec.endSending, busy]

/-! ## The end of a frame -/

/-- A link whose good frame has ended: it receives none, and the frame was a presence event (R165, R174). -/
def LinkRec.heard (x : LinkRec) : LinkRec := { x with receiving := none }.present

theorem frameEnd_bad {s : State} {l : Link} {b : Byte} {d : Destination} {rest : List Byte} {e : Bool}
    (receiving : (s.link l).receiving = some { first := b, dest := d }) (bad : goodFrame (b :: rest) e = false) :
    s.frameEnd l rest e = s.updLink l fun x => { x with receiving := none }.discard d := by
  rw [State.frameEnd, receiving]
  simp only [bad, Bool.false_eq_true, if_false]
  exact updLink_updLink s l _ _

theorem frameEnd_good {s : State} {l : Link} {b : Byte} {d : Destination} {rest : List Byte} {e : Bool}
    (receiving : (s.link l).receiving = some { first := b, dest := d }) (good : goodFrame (b :: rest) e = true) :
    s.frameEnd l rest e =
      (if (s.link l).presence = .lost then (s.updLink l LinkRec.heard).regained l else s.updLink l LinkRec.heard).placeFrame l d
        (frameOf (b :: rest)) := by
  rw [State.frameEnd, receiving]
  simp only [good, if_true, State.presenceEvent, updLink_updLink, link_updLink_self]
  rfl

theorem frameEnd_heard {s : State} {l : Link} {b : Byte} {d : Destination} {rest : List Byte} {e : Bool}
    (receiving : (s.link l).receiving = some { first := b, dest := d }) (good : goodFrame (b :: rest) e = true)
    (present : (s.link l).presence ≠ .lost) :
    s.frameEnd l rest e = (s.updLink l LinkRec.heard).placeFrame l d (frameOf (b :: rest)) := by
  rw [frameEnd_good receiving good, if_neg present]

/-- The layer a frame was filling, POSTED with it. -/
theorem heard_post (x : LinkRec) (n : LayerName) (r : Frame) : x.heard.post n r =
    { x.putLayer n (.posted r) with
      posted := x.posted ++ [n], receiving := none, presence := .present
      presenceTimer := some { elapsed := 0, window := x.window } } := by
  cases n <;> rfl

/-- Settles O12, by the destination of the frame. -/
theorem goodRegularFrameEnds : Obligations.GoodRegularFrameEnds := by
  refine ⟨fun l b rest n s receiving good present => ?_, fun l b rest s receiving good present => ?_⟩
  · have posted := updLink_updLink s l LinkRec.heard fun x => x.post n (frameOf (b :: rest))
    exact exec_updLink (congrArg Host.Outcome.next ((frameEnd_heard receiving good present).trans posted)) (heard_post ..)
  · exact ⟨_, congrArg Host.Outcome.next (frameEnd_heard receiving good present), rfl, rfl, rfl⟩

theorem goodFrame_iff (bytes : List Byte) (e : Bool) : goodFrame bytes e = true ↔
    e = false ∧ 4 ≤ bytes.length ∧ bytes.length ≤ 94 ∧ (bytes.getD 1 0#8).toNat + 4 = bytes.length ∧ (bytes.getD 1 0#8).toNat ≤ 90 ∧
    word16 (bytes.getD (bytes.length - 2) 0#8) (bytes.getD (bytes.length - 1) 0#8) = crc16 (bytes.take (bytes.length - 2)) := by
  simp only [goodFrame, Bool.and_eq_true, Bool.not_eq_true', decide_eq_true_eq, and_assoc]

/-- Settles O13: the frame leaves the layer it was filling. -/
theorem badFrameEnds : Obligations.BadFrameEnds := by
  refine ⟨fun bytes e bad => Bool.eq_false_iff.2 fun good => ?_, fun l b d rest e s receiving bad => ?_⟩
  · obtain ⟨clean, long, short, -⟩ := (goodFrame_iff bytes e).1 good
    obtain framing | few | many := bad
    · exact Bool.false_ne_true (clean.symm.trans framing)
    · omega
    · omega
  · refine exec_updLink (g := fun x => { x with receiving := none }.discard d) (congrArg Host.Outcome.next (frameEnd_bad receiving bad)) ?_
    cases d with
    | layer n => cases n <;> rfl
    | overrun => rfl
    | slot => rfl

/-- A request in the priority slot waits while the priority response slot is occupied (R171). -/
theorem takeSlot_waits {s : State} {l : Link} (occupied : (s.link l).priorityResponse ≠ none) : s.takeSlot l = s := by
  have busy : (s.link l).canAnswer = false := Bool.eq_false_iff.2 fun able => occupied ((canAnswer_iff _).1 able).2
  unfold State.takeSlot
  split
  · rfl
  · rw [busy]
    rfl

/-- Settles O15: the frame is placed in the priority slot, where its request waits. -/
theorem priorityFrameWaits : Obligations.PriorityFrameWaits := by
  intro l b rest s receiving good present occupied
  refine exec_updLink (g := fun x => x.heard.place (frameOf (b :: rest))) (congrArg Host.Outcome.next ?_) rfl
  have placed := updLink_updLink s l LinkRec.heard fun x => x.place (frameOf (b :: rest))
  refine (frameEnd_heard receiving good present).trans ((takeSlot_waits ?_).trans placed)
  rw [link_updLink_self, link_updLink_self]
  exact occupied

end Sys2Proof.Machine
end

section
/-! PROOF. Claims and groups regained by their link, or taken over by another (O14, O38). -/

namespace Sys2Proof.Machine

/-! ## One claim and one group taken over -/

theorem adopt_number (src l : Link) (c : ClaimRec) : (c.adopt src l).number = c.number := by
  unfold ClaimRec.adopt
  split <;> rfl

theorem adopt_group (src l : Link) (c : ClaimRec) : (c.adopt src l).group = c.group := by
  unfold ClaimRec.adopt
  split <;> rfl

theorem adopt_waitTimer (src l : Link) (c : ClaimRec) : (c.adopt src l).waitTimer = c.waitTimer := by
  unfold ClaimRec.adopt
  split <;> rfl

theorem adopt_state (src l : Link) (c : ClaimRec) : (c.adopt src l).state = c.state := by
  unfold ClaimRec.adopt
  split <;> rfl

theorem adopt_owner (src l : Link) (c : ClaimRec) : (c.adopt src l).owner = if c.owner = src then l else c.owner := by
  unfold ClaimRec.adopt
  split <;> rfl

/-- DESK_LOST of a claim of the source becomes OPERATOR (R150). -/
theorem adopt_reasons {src : Link} (l : Link) {c : ClaimRec} (own : c.owner = src) (carried : c.reasons.deskLost = true) :
    (c.adopt src l).reasons = { c.reasons with deskLost := false, operator := true } := by
  rw [ClaimRec.adopt, if_pos own, Reasons.convertDeskLost]
  exact if_pos carried

theorem groupAdopt_owner (src l : Link) (x : GroupRec) : (x.adopt src l).owner = if x.owner = src then l else x.owner := by
  unfold GroupRec.adopt
  split <;> rfl

theorem groupAdopt_state (src l : Link) (x : GroupRec) : (x.adopt src l).state = x.state := by
  unfold GroupRec.adopt
  split <;> rfl

theorem groupAdopt_members (src l : Link) (x : GroupRec) : (x.adopt src l).members = x.members := by
  unfold GroupRec.adopt
  split <;> rfl

/-! ## Claims taken over: the pass that follows -/

/-- The claims of `src` taken over by `l`, the claims settled, and a pass (R150, R176, R177). -/
def State.takenOver (s : State) (src l : Link) : State := (s.mapClaims (ClaimRec.adopt src l)).settle.pass

/-- The table with the groups of `src` taken over by `l` (R86). -/
def State.groupsAdopted (s : State) (src l : Link) : State := { s with groups := s.groups.map (Option.map (GroupRec.adopt src l)) }

/-- A link that is heard again takes over its own claims (R176). -/
theorem regained_eq (s : State) (l : Link) : s.regained l = s.takenOver l l := by
  have own : (fun c : ClaimRec => if c.owner = l then { c with reasons := c.reasons.convertDeskLost } else c) = ClaimRec.adopt l l := by
    funext c
    unfold ClaimRec.adopt
    split
    · rename_i same
      rw [← same]
    · rfl
  rw [State.regained, own]
  rfl

theorem takenOver_settled (s : State) (src l : Link) : ∃ f : ClaimRec → ClaimRec,
    (s.mapClaims (ClaimRec.adopt src l)).settle = s.mapClaims f ∧ ∀ c, Reheld (c.adopt src l) (f c) := by
  obtain ⟨h, settled, reheld⟩ := settle_reheld (s.mapClaims (ClaimRec.adopt src l))
  exact ⟨_, settled.trans (mapClaims_mapClaims ..), fun c => reheld _⟩

theorem takenOver_granting (s : State) (src l : Link) : Granting (s.mapClaims (ClaimRec.adopt src l)).settle (s.takenOver src l) :=
  pass_granting _

theorem takenOver_frame (s : State) (src l : Link) : PassFrame s (s.takenOver src l) := by
  have settled : PassFrame s (s.mapClaims (ClaimRec.adopt src l)).settle := rfl
  exact settled.trans' (takenOver_granting s src l).frame

/-- Every claim keeps its place, and those of the source have the new owner. -/
theorem takenOver_owners (s : State) (src l : Link) : (s.takenOver src l).claims.map (fun c => (c.number, c.owner)) =
    s.claims.map fun c => (c.number, if c.owner = src then l else c.owner) := by
  obtain ⟨g, granted, regranted⟩ := (takenOver_granting s src l).claims
  obtain ⟨f, settled, reheld⟩ := takenOver_settled s src l
  rw [granted, settled, List.map_map]
  show (s.claims.map f).map _ = _
  rw [List.map_map]
  refine List.map_congr_left fun c _ => ?_
  show ((g (f c)).number, (g (f c)).owner) = _
  rw [(regranted (f c)).same, (reheld c).same, ← adopt_number src l c, ← adopt_owner src l c]

theorem takenOver_numbers (s : State) (src l : Link) : (s.takenOver src l).claims.map ClaimRec.number = s.claims.map ClaimRec.number := by
  have firsts := congrArg (List.map Prod.fst) (takenOver_owners s src l)
  rwa [List.map_map, List.map_map] at firsts

theorem takenOver_groupOwner (s : State) (src l : Link) (g : Nat) :
    ((s.takenOver src l).group? g).map GroupRec.owner = (s.group? g).map GroupRec.owner := by
  obtain same | ⟨x, before, after⟩ := (takenOver_granting s src l).groups g
  · rw [same]
    rfl
  · have before : s.group? g = some x := before
    rw [before, after]
    rfl

/-- A HELD claim of the source that carried DESK_LOST is HELD with OPERATOR in its place, after the pass too. -/
theorem takenOver_converted {s : State} (queues : QueueLaws s) {src : Link} (l : Link) {c : ClaimRec} (mem : c ∈ s.claims)
    (own : c.owner = src) (held : c.state = .held) (carried : c.reasons.deskLost = true) :
    ∃ d, (s.takenOver src l).claim? c.number = some d ∧ d.owner = l ∧ d.state = .held ∧ d.reasons.deskLost = false ∧
      d.reasons.operator = true := by
  obtain ⟨f, settled, reheld⟩ := takenOver_settled s src l
  have reasons := adopt_reasons l own carried
  have operator : (c.adopt src l).reasons.operator = true := congrArg Reasons.operator reasons
  have deskLost : (c.adopt src l).reasons.deskLost = false := congrArg Reasons.deskLost reasons
  have stays : (f c).state = .held := (reheld c).held ((adopt_state src l c).trans held) (firm_of_operator operator)
  have found : (s.mapClaims (ClaimRec.adopt src l)).settle.claim? c.number = some (f c) := by
    rw [settled, claim?_mapClaims s f (fun c => (reheld c).number.trans (adopt_number src l c)), claim?_of_mem queues.1 mem]
    rfl
  have waits : QueueLaws (s.mapClaims (ClaimRec.adopt src l)).settle :=
    (queues.map _ (adopt_number src l) (adopt_group src l) (adopt_waitTimer src l) fun c => by rw [adopt_state]).reheld (settle_reheld _)
  refine ⟨f c, claim?_pass waits found (by rw [stays]; exact nofun), ?_, stays, ?_, (reheld c).operator.trans operator⟩
  · rw [(reheld c).same]
    exact (adopt_owner src l c).trans (if_pos own)
  · exact (congrArg Reasons.deskLost (reheld c).firm).trans deskLost

/-! ## A LOST link heard again (R176) -/

/-- A pass between two changes of a link leaves the link's record as the two make it. -/
theorem links_updLink_of_passFrame {s u : State} {l : Link} {g : LinkRec → LinkRec} (h : LinkRec → LinkRec)
    (frame : PassFrame (s.updLink l g) u) : (u.updLink l h).links = s.links.put l (h (g (s.link l))) := by
  have links : u.links = (s.updLink l g).links := (congrArg State.links frame).trans rfl
  have link : u.link l = g (s.link l) := (link_congr links l).trans (link_updLink_self ..)
  rw [links_updLink, link, links]
  exact PerLink.put_put ..

theorem updLink_of_passFrame {s u : State} {l : Link} {g : LinkRec → LinkRec} (h : LinkRec → LinkRec)
    (frame : PassFrame (s.updLink l g) u) : u.updLink l h =
      { s with
        claims := u.claims, sets := u.sets, groups := u.groups, pointer := u.pointer, served := u.served
        links := (u.updLink l h).links } :=
  (congrArg (fun v : State => { v with links := (u.updLink l h).links }) frame).trans rfl

/-- Settles O14: the link takes over its own claims, and its frame is posted after the pass. -/
theorem lostDeskReturns : Obligations.LostDeskReturns := by
  intro l b rest n s receiving good lost laws
  have ended : s.frameEnd l rest false = ((s.updLink l LinkRec.heard).takenOver l l).updLink l fun x => x.post n (frameOf (b :: rest)) := by
    rw [frameEnd_good receiving good, if_pos lost, regained_eq]
    rfl
  have frame := takenOver_frame (s.updLink l LinkRec.heard) l l
  refine ⟨_, congrArg Host.Outcome.next ended, ?_, ?_, takenOver_numbers _ l l, fun c mem own held carried => ?_⟩
  · exact updLink_of_passFrame _ frame
  · exact (links_updLink_of_passFrame (fun x => x.post n (frameOf (b :: rest))) frame).trans (congrArg (s.links.put l) (heard_post ..))
  · obtain ⟨d, found, -, state, deskLost, operator⟩ := takenOver_converted (s := s.updLink l LinkRec.heard)
      (laws.queues.congr rfl rfl) l mem own held carried
    exact ⟨d, found, state, deskLost, operator⟩

/-! ## ADOPT (R177) -/

theorem groupsAdopted_group? (s : State) (src l : Link) (g : Nat) :
    (s.groupsAdopted src l).group? g = (s.group? g).map (GroupRec.adopt src l) := Tab.record?_map s.groups _ g

/-- The groups of the source taken over keep their states and members. -/
theorem QueueLaws.groupsAdopted {s : State} (queues : QueueLaws s) (src l : Link) : QueueLaws (s.groupsAdopted src l) := by
  obtain ⟨distinct, members, timers⟩ := queues
  refine ⟨distinct, fun g y found forming n mem => ?_, timers⟩
  rw [groupsAdopted_group?, Option.map_eq_some_iff] at found
  obtain ⟨x, found, rfl⟩ := found
  rw [groupAdopt_state] at forming
  rw [groupAdopt_members] at mem
  exact members g x found forming n mem

theorem transfer_eq (s : State) (src l : Link) : s.transfer src l = (s.groupsAdopted src l).takenOver src l := rfl

theorem transfer_frame (s : State) (src l : Link) : PassFrame s (s.transfer src l) :=
  (show PassFrame s (s.groupsAdopted src l) from rfl).trans' (takenOver_frame _ src l)

theorem transfer_groupOwner (s : State) (src l : Link) (g : Nat) : ((s.transfer src l).group? g).map GroupRec.owner =
    (s.group? g).map fun x => if x.owner = src then l else x.owner := by
  rw [transfer_eq, takenOver_groupOwner, groupsAdopted_group?, Option.map_map]
  exact congrArg (Option.map · (s.group? g)) (funext (groupAdopt_owner src l))

/-- What the answer to ADOPT counts (R177). -/
theorem adoptCounts (s : State) (src : Link) : be16 (s.claimsOf src) ++ be16 (s.groupsOf src) =
    be16 (s.claims.countP fun c => decide (c.owner = src)) ++
      be16 ((List.range' 1 24).countP fun g => (s.group? g).any fun x => decide (x.owner = src)) := by
  rw [State.claimsOf, State.groupsOf, ← List.countP_eq_length_filter, ← List.countP_eq_length_filter]
  rfl

theorem link_ofCode_code (l : Link) : Link.ofCode? l.code = some l := by cases l <;> rfl

theorem serveAdopt_own {l src : Link} (own : src = l) (s : State) : serveAdopt l src.code s = (s, Reply.of .notPermitted) := by
  simp [serveAdopt, link_ofCode_code, own]

theorem serveAdopt_present {l src : Link} {s : State} (other : src ≠ l) (present : (s.link src).presence ≠ .lost) :
    serveAdopt l src.code s = (s, Reply.of .deskPresent) := by
  simp [serveAdopt, link_ofCode_code, other, present]

theorem serveAdopt_lost {l src : Link} {s : State} (other : src ≠ l) (lost : (s.link src).presence = .lost) :
    serveAdopt l src.code s = (s.transfer src l, Reply.done (be16 (s.claimsOf src) ++ be16 (s.groupsOf src))) := by
  simp [serveAdopt, link_ofCode_code, other, lost]

/-- Settles O38: the requester's own link, a link that is not LOST, and the claims and groups of a LOST one taken over. -/
theorem adoptTaken : Obligations.AdoptTaken := by
  intro l src tag s desk
  have form : formOk (.adopt src.code) = true := congrArg Option.isSome (link_ofCode_code src)
  have request : exec (.adopt l tag src.code) s = .next (takeRegular l tag (.adopt src.code) s) := rfl
  by_cases own : src = l
  · obtain ⟨t, taken, answered⟩ := exec_answerOnly desk request form (serveAdopt_own own s)
    exact ⟨t, taken, by rw [if_pos own]; exact answered⟩
  · by_cases lost : (s.link src).presence = .lost
    · have frame := transfer_frame s src l
      have links : (s.transfer src l).links = s.links := (congrArg State.links frame).trans rfl
      refine ⟨_, exec_taken desk request form (serveAdopt_lost own lost), ?_⟩
      rw [if_neg own, if_neg (not_not_intro lost), ← adoptCounts]
      refine ⟨?_, takenOver_owners (s.groupsAdopted src l) src l, transfer_groupOwner s src l,
        fun laws c => takenOver_converted (laws.queues.groupsAdopted src l) l, answered_queueReply l 25 tag _ links⟩
      rw [queueReply_frame, frame]
    · obtain ⟨t, taken, answered⟩ := exec_answerOnly desk request form (serveAdopt_present own lost)
      exact ⟨t, taken, by rw [if_neg own, if_pos lost]; exact answered⟩

end Sys2Proof.Machine
end

section
/-! PROOF. A hold reason added to the claims a test selects, and the groups re-evaluated: the loss of a link and HOLD ALL (O18). -/

namespace Sys2Proof.Machine

/-! ## A reason that a re-evaluation keeps -/

/-- A hold reason other than COLUMN and GROUP, by how it is found and how it is added. -/
structure LastingReason (has : Reasons → Bool) (add : Reasons → Reasons) : Prop where
  added : ∀ r, has (add r) = true
  absent : has Reasons.empty = false
  kept : ∀ r, has { r with column := false, group := false } = has r

theorem deskLost_lasting : LastingReason Reasons.deskLost Reasons.addDeskLost := ⟨fun _ => rfl, rfl, fun _ => rfl⟩

theorem all_lasting : LastingReason Reasons.all Reasons.addAll := ⟨fun _ => rfl, rfl, fun _ => rfl⟩

section
variable {has : Reasons → Bool} {add : Reasons → Reasons}

theorem LastingReason.reheld (h : LastingReason has add) {c d : ClaimRec} (reheld : Reheld c d) : has d.reasons = has c.reasons := by
  rw [← h.kept d.reasons, reheld.firm, h.kept]

theorem LastingReason.firm (h : LastingReason has add) {r : Reasons} (carried : has r = true) : r.firm = true := by
  refine decide_eq_true fun empty => ?_
  rw [← h.kept, empty, h.absent] at carried
  exact Bool.false_ne_true carried

/-- A claim in GRANTED, MOVING or HELD, held for the reason and re-evaluated. -/
theorem LastingReason.held (h : LastingReason has add) {c d : ClaimRec} (holdable : c.holdable = true) (reheld : Reheld (c.hold add) d) :
    d.state = .held ∧ has d.reasons = true ∧ d.span = c.span ∧ d.taken = c.taken := by
  obtain ⟨held, reasons, span, taken⟩ := hold_of_holdable add holdable
  have carried : has (c.hold add).reasons = true := by
    rw [reasons]
    exact h.added c.reasons
  exact ⟨reheld.held held (h.firm carried), (h.reheld reheld).trans carried, reheld.span.trans span, reheld.taken.trans taken⟩

theorem Reheld.of_idle {c d : ClaimRec} (idle : c.holdable = false) (reheld : Reheld (c.hold add) d) : d = c := by
  have same := hold_of_not_holdable add idle
  rw [same] at reheld
  exact reheld.idle idle

theorem LastingReason.still (h : LastingReason has add) {c d : ClaimRec} (reheld : Reheld (c.hold add) d) :
    d.running = false ∧ (d.state = .held → has d.reasons = true) := by
  by_cases holdable : c.holdable = true
  · obtain ⟨held, carried, -⟩ := h.held holdable reheld
    exact ⟨not_running_of_held held, fun _ => carried⟩
  · have idle := Bool.eq_false_of_not_eq_true holdable
    obtain ⟨still, notHeld⟩ := not_running_of_not_holdable idle
    rw [Reheld.of_idle idle reheld]
    exact ⟨still, fun held => absurd held notHeld⟩

end

theorem hold_owner (add : Reasons → Reasons) (c : ClaimRec) : (c.hold add).owner = c.owner := by
  unfold ClaimRec.hold
  split
  · rfl
  · split <;> rfl

theorem Reheld.owner {c d : ClaimRec} (h : Reheld c d) : d.owner = c.owner := by rw [h.same]

/-! ## The claims held -/

/-- A hold reason added to the claims that a test selects, and the groups re-evaluated (R90, R150, R160). -/
def State.heldWhere (s : State) (p : ClaimRec → Bool) (add : Reasons → Reasons) : State := (s.holdWhere p add).regroup

/-- What a hold with its re-evaluation makes of each claim. -/
theorem heldWhere_spec (s : State) (p : ClaimRec → Bool) (add : Reasons → Reasons) : ∃ f : ClaimRec → ClaimRec,
    s.heldWhere p add = s.mapClaims f ∧ (∀ c, Reheld (if p c then c.hold add else c) (f c)) ∧
      ∀ c, p c = false → c.group = none → c.reasons.group = false → (c.state = .held → c.reasons ≠ Reasons.empty) → f c = c := by
  obtain ⟨f, regrouped, reheld, alone⟩ := regroup_spec (s.holdWhere p add)
  refine ⟨_, regrouped.trans (mapClaims_mapClaims ..), fun c => reheld _, fun c spared group noGroup reasoned => ?_⟩
  have kept : (if p c then c.hold add else c) = c := by rw [spared]; rfl
  show f (if p c then c.hold add else c) = c
  rw [kept]
  exact alone c group noGroup reasoned

section
variable {has : Reasons → Bool} {add : Reasons → Reasons} {p : ClaimRec → Bool} {s : State}

theorem heldWhere_number {f : ClaimRec → ClaimRec} (reheld : ∀ c, Reheld (if p c then c.hold add else c) (f c)) (c : ClaimRec) :
    (f c).number = c.number := by
  refine (reheld c).number.trans ?_
  split
  · exact hold_number add c
  · rfl

theorem heldWhere_numbers : (s.heldWhere p add).claims.map ClaimRec.number = s.claims.map ClaimRec.number := by
  obtain ⟨f, held, reheld, -⟩ := heldWhere_spec s p add
  rw [held]
  exact numbers_mapClaims s f (heldWhere_number reheld)

/-- A selected claim that was in GRANTED, MOVING or HELD is HELD for the reason. -/
theorem LastingReason.heldFor (h : LastingReason has add) (distinct : (s.claims.map ClaimRec.number).Nodup) {c : ClaimRec}
    (mem : c ∈ s.claims) (selected : p c = true) (holdable : c.holdable = true) : HeldFor has (s.heldWhere p add) c := by
  obtain ⟨f, held, reheld, -⟩ := heldWhere_spec s p add
  have after := reheld c
  rw [if_pos selected] at after
  refine ⟨f c, ?_, h.held holdable after⟩
  rw [held, claim?_mapClaims s f (heldWhere_number reheld), claim?_of_mem distinct mem]
  rfl

/-- Where the test reads the owner, a claim it selects afterwards is not in motion, and carries the reason if HELD. -/
theorem LastingReason.heldWhere_still (h : LastingReason has add) (ofOwner : ∀ c d : ClaimRec, d.owner = c.owner → p d = p c)
    {d : ClaimRec} (mem : d ∈ (s.heldWhere p add).claims) (selected : p d = true) :
    d.running = false ∧ (d.state = .held → has d.reasons = true) := by
  obtain ⟨f, held, reheld, -⟩ := heldWhere_spec s p add
  rw [held] at mem
  obtain ⟨c, -, rfl⟩ := List.mem_map.1 mem
  have owner : (f c).owner = c.owner := by
    refine (reheld c).owner.trans ?_
    split
    · exact hold_owner add c
    · rfl
  have after := reheld c
  rw [if_pos ((ofOwner c (f c) owner).symm.trans selected)] at after
  exact h.still after

/-- A claim in another state stays as it is. -/
theorem mem_heldWhere_of_idle {c : ClaimRec} (mem : c ∈ s.claims) (idle : c.holdable = false) : c ∈ (s.heldWhere p add).claims := by
  obtain ⟨f, held, reheld, -⟩ := heldWhere_spec s p add
  have after := reheld c
  have same : f c = c := by
    split at after
    · exact Reheld.of_idle idle after
    · exact after.idle idle
  rw [held]
  exact same ▸ List.mem_map_of_mem mem

/-- A claim outside the test and outside groups stays as it is. -/
theorem mem_heldWhere_of_alone {c : ClaimRec} (mem : c ∈ s.claims) (spared : p c = false) (group : c.group = none)
    (noGroup : c.reasons.group = false) (reasoned : c.state = .held → c.reasons ≠ Reasons.empty) : c ∈ (s.heldWhere p add).claims := by
  obtain ⟨f, held, -, alone⟩ := heldWhere_spec s p add
  rw [held]
  exact alone c spared group noGroup reasoned ▸ List.mem_map_of_mem mem

end

/-! ## HOLD ALL (R160) -/

theorem latchIf_attention (b : Bool) (src : Source) (s : State) :
    (latchIf b src s).attention = if b then s.attention.latchTimes src 1 else s.attention := by cases b <;> rfl

theorem latchIf_claims (b : Bool) (src : Source) (s : State) : (latchIf b src s).claims = s.claims :=
  (congrArg State.claims (latchIf_frame b src s)).trans rfl

theorem HeldFor.congr {has : Reasons → Bool} {t u : State} {c : ClaimRec} (h : HeldFor has t c) (claims : u.claims = t.claims) :
    HeldFor has u c := by
  unfold HeldFor State.claim? at *
  rw [claims]
  exact h

/-- The Claim Table with hold-all set: every claim in GRANTED, MOVING or HELD held with ALL. -/
def State.allHeld (s : State) : State := (s.updStop fun x => { x with holdAll := true }).heldWhere (fun _ => true) Reasons.addAll

theorem serveHoldAll_eq (s : State) : serveHoldAll s = (latchIf (!s.stop.holdAll) .holdAll s.allHeld, Reply.of .done) := rfl

theorem allHeld_frame (s : State) : s.allHeld = { s with claims := s.allHeld.claims, stop := { s.stop with holdAll := true } } := rfl

theorem allHeld_still (s : State) : AllStill Reasons.all s.allHeld := fun _ mem => all_lasting.heldWhere_still (fun _ _ _ => rfl) mem rfl

theorem holdAll_settled {l : Link} (tag : Word16) {s : State} (desk : HoldDesk s l) :
    ∃ t, exec (.holdAll l tag) s = .next t ∧
      t = { s with claims := t.claims, stop := t.stop, links := t.links, attention := t.attention } ∧
      t.stop = { s.stop with holdAll := true } ∧ AllStill Reasons.all t ∧
      t.claims.map ClaimRec.number = s.claims.map ClaimRec.number ∧
      (NumbersDistinct s → ∀ c ∈ s.claims, c.holdable = true → HeldFor Reasons.all t c) ∧
      (∀ c ∈ s.claims, c.holdable = false → c ∈ t.claims) ∧
      t.attention = (if s.stop.holdAll then s.attention else s.attention.latchTimes .holdAll 1) ∧
      AnsweredNow s t l 3 tag (Reply.of .done) := by
  have taken : exec (.holdAll l tag) s = .next (slotReply l (byteOf 3) tag false (serveHoldAll s)) :=
    congrArg Host.Outcome.next (takePriority_hold (r := .holdAll) tag desk (by decide) rfl)
  rw [serveHoldAll_eq] at taken
  have claims := latchIf_claims (!s.stop.holdAll) .holdAll s.allHeld
  have attention : (latchIf (!s.stop.holdAll) .holdAll s.allHeld).attention =
      if s.stop.holdAll then s.attention else s.attention.latchTimes .holdAll 1 := by
    rw [latchIf_attention]
    cases s.stop.holdAll <;> rfl
  have frame := latchIf_frame (!s.stop.holdAll) .holdAll s.allHeld
  generalize latchIf (!s.stop.holdAll) .holdAll s.allHeld = u at taken claims attention frame
  have links : u.links = s.links := (congrArg State.links frame).trans rfl
  have stop : u.stop = { s.stop with holdAll := true } := (congrArg State.stop frame).trans rfl
  refine ⟨_, taken, ?_, stop, ?_, ?_, fun distinct c mem holdable => ?_, fun c mem idle => ?_, attention,
    answeredNow_slotReply l 3 tag _ links⟩
  · have changed : u = { s with claims := u.claims, stop := u.stop, attention := u.attention } := by
      rw [frame, allHeld_frame]
    exact congrArg (fun v : State => { v with links := (slotReply l (byteOf 3) tag false (u, Reply.of .done)).links }) changed
  · show ∀ c ∈ u.claims, _
    rw [claims]
    exact allHeld_still s
  · exact (congrArg _ claims).trans heldWhere_numbers
  · exact (all_lasting.heldFor (s := s.updStop _) distinct.1 mem rfl holdable).congr claims
  · exact claims ▸ mem_heldWhere_of_idle (s := s.updStop _) mem idle

/-! ## The loss of a link (R150, R175) -/

/-- The claims of link `l`. -/
def ownedBy (l : Link) (c : ClaimRec) : Bool := decide (c.owner = l)

/-- The claims of a LOST link held with DESK_LOST. -/
def State.deskHeld (s : State) (l : Link) : State := (s.updLink l LinkRec.lose).heldWhere (ownedBy l) Reasons.addDeskLost

theorem loseDesk_claims (s : State) (l : Link) : (s.loseDesk l).claims = (s.deskHeld l).claims := rfl

theorem loseDesk_frame (s : State) (l : Link) : s.loseDesk l = { s with
    claims := (s.loseDesk l).claims, links := s.links.put l (s.link l).lose
    attention := s.attention.latchTimes (Source.ofLoss l) 1 } := rfl

section
variable {s : State} {l : Link} {c : ClaimRec}

theorem loseDesk_numbers : (s.loseDesk l).claims.map ClaimRec.number = s.claims.map ClaimRec.number :=
  heldWhere_numbers (s := s.updLink l LinkRec.lose)

theorem loseDesk_still (mem : c ∈ (s.loseDesk l).claims) (own : c.owner = l) :
    c.running = false ∧ (c.state = .held → c.reasons.deskLost = true) := by
  refine deskLost_lasting.heldWhere_still (p := ownedBy l) (fun c d owner => ?_) mem (decide_eq_true own)
  rw [ownedBy, owner, ← ownedBy]

theorem loseDesk_heldFor (distinct : (s.claims.map ClaimRec.number).Nodup) (mem : c ∈ s.claims) (own : c.owner = l)
    (holdable : c.holdable = true) : HeldFor Reasons.deskLost (s.loseDesk l) c :=
  (deskLost_lasting.heldFor (s := s.updLink l LinkRec.lose) distinct mem (decide_eq_true own : ownedBy l c = true) holdable).congr
    (loseDesk_claims s l)

theorem mem_loseDesk_of_idle (mem : c ∈ s.claims) (idle : c.holdable = false) : c ∈ (s.loseDesk l).claims :=
  mem_heldWhere_of_idle (s := s.updLink l LinkRec.lose) mem idle

theorem mem_loseDesk_of_other (law : HeldExactly s) (mem : c ∈ s.claims) (other : c.owner ≠ l) (group : c.group = none)
    (noGroup : c.reasons.group = false) : c ∈ (s.loseDesk l).claims :=
  mem_heldWhere_of_alone (s := s.updLink l LinkRec.lose) mem (decide_eq_false other : ownedBy l c = false) group noGroup
    fun held => (law c mem).1 held

end

theorem presenceExpiry_of_present {s : State} {l : Link} {x : PresenceTimer} (present : (s.link l).presence = .present)
    (timer : (s.link l).presenceTimer = some x) : s.presenceExpiry l = (s.elapse (x.window - x.elapsed)).loseDesk l := by
  rw [State.presenceExpiry, LinkRec.runningTimer, if_pos present, timer]

theorem heldExactly_elapse {s : State} (law : HeldExactly s) (ms : Nat) : HeldExactly (s.elapse ms) := by
  intro d mem
  obtain ⟨c, there, rfl⟩ := List.mem_map.1 mem
  exact law c there

theorem elapse_numbers (s : State) (ms : Nat) : (s.elapse ms).claims.map ClaimRec.number = s.claims.map ClaimRec.number :=
  numbers_mapClaims s _ fun _ => rfl

/-- Time leaves the layers of a link as they are. -/
theorem lose_elapse (x : LinkRec) (ms : Nat) : (x.elapse ms).lose = { x.elapse ms with
    presence := .lost, presenceTimer := none, posted := [], slot := none
    layer0 := x.layer0.lose, layer1 := x.layer1.lose } := rfl

/-- Settles O18: DESK_LOST on the claims of the lost link after the time that ran its window out, and ALL on every claim. -/
theorem lossAndHoldAll : Obligations.LossAndHoldAll := by
  refine ⟨?_, fun l tag s => holdAll_settled tag⟩
  rintro l x s w present timer elapsed
  have taken : exec (.presenceWindowExpiry l) s = .next (w.loseDesk l) :=
    congrArg Host.Outcome.next ((presenceExpiry_of_present present timer).trans (by rw [elapsed]))
  have link : w.link l = (s.link l).elapse (x.window - x.elapsed) := by rw [elapsed, elapse_link]
  have attention : w.attention = s.attention := by rw [elapsed]; rfl
  have numbers : w.claims.map ClaimRec.number = s.claims.map ClaimRec.number := by rw [elapsed, elapse_numbers]
  refine ⟨_, taken, ?_, loseDesk_numbers.trans numbers, fun c mem own => loseDesk_still mem own,
    fun distinct c mem own holdable => ?_, fun c mem idle => mem_loseDesk_of_idle mem idle,
    fun law c mem other group noGroup => mem_loseDesk_of_other ?_ mem other group noGroup⟩
  · have frame := loseDesk_frame w l
    rw [link, attention, lose_elapse] at frame
    rw [link]
    refine frame.trans ?_
    cases (s.link l).layer0 <;> cases (s.link l).layer1 <;> rfl
  · have later : c.elapse (x.window - x.elapsed) ∈ w.claims := elapsed ▸ List.mem_map_of_mem mem
    have held := loseDesk_heldFor (numbers ▸ distinct.1) later own holdable
    exact held
  · rw [elapsed]
    exact heldExactly_elapse law _

end Sys2Proof.Machine
end

section
/-! PROOF. PRESENCE, READ ATTENTION, and the parameters: how they resolve, are read and set, and what a new clearance meets (O10). -/

namespace Sys2Proof.Machine

/-! ## PRESENCE (R173) -/

theorem flags_one (b : Bool) : flags [b] = [if b then 1#8 else 0#8] := by cases b <;> rfl

theorem b1_ite (b : Bool) : b1 (if b then 0 else 1) = [if b then 0#8 else 1#8] := by cases b <;> rfl

/-- Every role but OFF permits PRESENCE. -/
theorem permits_presence {x : Role} (on : x ≠ .off) : x.permits 1 = true := by
  cases x with
  | full => rfl
  | hold => rfl
  | lookup => rfl
  | off => exact absurd rfl on

theorem presence_settled {l : Link} (tag : Word16) {s : State} (on : (s.link l).role ≠ .off) (slot : (s.link l).priorityResponse = none) :
    ∃ t, exec (.presence l tag) s = .next t ∧ AnswerOnlyNow s t l 1 tag (Reply.done (s.statusImage l)) := by
  refine ⟨_, ?_, answerOnlyNow_slotReply s l 1 tag _⟩
  have answered : answer l .presence s = (s, Reply.done (s.statusImage l)) := by
    rw [answer, show kindOf .presence = 1 from rfl, permits_presence on]
    rfl
  show Host.Outcome.next (takePriority l tag .presence s) = _
  rw [takePriority, if_pos (canAnswer_of_on on slot), answered]
  rfl

theorem statusImage_eq (s : State) (l : Link) : s.statusImage l =
    [byteOf s.stop.state.code, if s.stop.holdAll then 1#8 else 0#8, if s.stop.channelA then 0#8 else 1#8,
     if s.stop.channelB then 0#8 else 1#8, if s.stop.mark then 1#8 else 0#8, byteOf (s.link .dl0).presence.code,
     byteOf (s.link .dl1).presence.code, byteOf (s.link .dl2).presence.code, byteOf (s.link l).role.code] := by
  simp only [State.statusImage, flags_one, b1_ite]
  rfl

/-! ## READ ATTENTION (R186) -/

theorem routingByte {a : AttentionRec} {n : Nat} (range : n < 20) :
    b1 ((a.routing[n]?.map Routing.code).getD 0) = [if a.routing[n]? = some .urgent then 0#8 else 1#8] := by
  rw [Vector.getElem?_eq_getElem range]
  cases a.routing[n] <;> rfl

theorem enableByte {a : AttentionRec} {n : Nat} (range : n < 20) :
    b1 ((a.enabled[n]?.map onOffCode).getD 0) = [if a.enabled[n]? = some true then 0#8 else 1#8] := by
  rw [Vector.getElem?_eq_getElem range]
  cases a.enabled[n] <;> rfl

theorem modeByte (m : SummaryMode) : b1 m.code = [if m = .latest then 0#8 else 1#8] := by cases m <;> rfl

theorem sourceBytes_eq (a : AttentionRec) {n : Nat} (range : n < 20) : a.sourceBytes n =
    [byteOf (a.count n), if a.routing[n]? = some .urgent then 0#8 else 1#8, if a.enabled[n]? = some true then 0#8 else 1#8] := by
  rw [AttentionRec.sourceBytes, routingByte range, enableByte range]
  rfl

/-- The bytes of the image after its sources. -/
def AttentionRec.outputBytes (a : AttentionRec) : List Byte :=
  flags [a.output .urgent] ++ flags [a.output .routine] ++ bytes16 a.sequence ++ b1 a.mode.code

theorem outputBytes_eq (a : AttentionRec) : a.outputBytes =
    [if a.output .urgent then 1#8 else 0#8, if a.output .routine then 1#8 else 0#8] ++ bytes16 a.sequence ++
      [if a.mode = .latest then 0#8 else 1#8] := by
  rw [AttentionRec.outputBytes, flags_one, flags_one, modeByte]
  rfl

/-- The image as its fields: the twenty sources, and the rest. -/
def AttentionRec.fields (a : AttentionRec) : List (List Byte) := sourceCodes.map a.sourceBytes ++ [a.outputBytes]

theorem attentionImage_eq (a : AttentionRec) : a.image = a.fields.flatten := by
  rw [AttentionRec.image, AttentionRec.fields, List.flatten_append, AttentionRec.outputBytes, List.flatMap_def]
  simp only [List.append_assoc, List.flatten_cons, List.flatten_nil, List.append_nil]

theorem attentionFields_layout (a : AttentionRec) : a.fields.map List.length = List.replicate 20 3 ++ [5] := rfl

theorem attentionImage_source (a : AttentionRec) {n : Nat} (range : n < 20) : BytesAt a.image (3 * n) (a.sourceBytes n) := by
  have field : a.fields[n]? = some (a.sourceBytes n) := by
    rw [AttentionRec.fields, List.getElem?_append_left (by simpa [sourceCodes] using range), List.getElem?_map, sourceCodes,
      List.getElem?_range range]
    rfl
  have place : ((List.replicate 20 3 ++ [5]).take n).sum = 3 * n := by
    rw [List.take_append_of_le_length (by simpa using range.le), List.take_replicate, Nat.min_eq_left range.le, List.sum_replicate_nat,
      Nat.mul_comm]
  rw [attentionImage_eq, ← place]
  exact bytesAt_flatten (attentionFields_layout a) field

theorem attentionImage_outputs (a : AttentionRec) : BytesAt a.image 60 a.outputBytes := by
  rw [attentionImage_eq]
  exact bytesAt_flatten (attentionFields_layout a) (i := 20) rfl

theorem attentionImage_length (a : AttentionRec) : a.image.length = 65 := by
  rw [attentionImage_eq]
  exact length_flatten_of_layout (attentionFields_layout a)

/-! ## How a parameter resolves (R178) -/

theorem alone_eq_some {w : Option Nat} {x y : Param} : alone w y = some x ↔ w = none ∧ y = x := by
  cases w <;> simp [alone]

theorem link_ofCode_eq_some {n : Nat} {l : Link} : Link.ofCode? n = some l ↔ n = l.code := by
  refine ⟨fun found => ?_, fun same => same ▸ link_ofCode_code l⟩
  unfold Link.ofCode? at found
  split at found <;> cases found <;> rfl

theorem segment_ofCode_eq_some {n : Nat} {f : Segment} : Segment.ofCode? n = some f ↔ n = f.code := by
  refine ⟨fun found => ?_, fun same => same ▸ ofCode_code f⟩
  unfold Segment.ofCode? at found
  split at found <;> cases found <;> rfl

theorem sourceCode_eq_some {n k : Nat} : sourceCode? n = some k ↔ k < 20 ∧ n = k := by
  rw [sourceCode?]
  split
  · rename_i range
    exact ⟨fun same => by cases same; exact ⟨range, rfl⟩, fun ⟨_, same⟩ => congrArg some same⟩
  · rename_i range
    exact ⟨nofun, fun ⟨small, same⟩ => absurd (same ▸ small) range⟩

/-- A parameter whose second field is a code. -/
theorem named_eq_some {α : Type} {w : Option Nat} {code : Nat → Option α} {g : α → Param} {x : Param} :
    (w.bind code).map g = some x ↔ ∃ n a, w = some n ∧ code n = some a ∧ g a = x := by
  cases w <;> simp

/-- The two fields that spell a parameter, and the sources there are (R178, R191). -/
def Param.spelt (x : Param) (p : ParamName) : Prop :=
  match x with
  | .clearance => p = { name := 0, which := none }
  | .nearFull => p = { name := 1, which := none }
  | .weight l => p = { name := 2, which := some l.code }
  | .pointer => p = { name := 3, which := none }
  | .served => p = { name := 4, which := none }
  | .drift => p = { name := 5, which := none }
  | .idleSlice f => p = { name := 6, which := some f.code }
  | .window l => p = { name := 7, which := some l.code }
  | .mode => p = { name := 8, which := none }
  | .routing n => n < 20 ∧ p = { name := 9, which := some n }
  | .enable n => n < 20 ∧ p = { name := 10, which := some n }

theorem spelt_of_resolveParam {p : ParamName} {x : Param} (resolved : resolveParam p = some x) : x.spelt p := by
  obtain ⟨name, which⟩ := p
  unfold resolveParam at resolved
  dsimp only at resolved
  split at resolved
  case h_3 =>
    obtain ⟨n, l, rfl, code, rfl⟩ := named_eq_some.1 resolved
    rw [link_ofCode_eq_some] at code
    exact code ▸ rfl
  case h_7 =>
    obtain ⟨n, f, rfl, code, rfl⟩ := named_eq_some.1 resolved
    rw [segment_ofCode_eq_some] at code
    exact code ▸ rfl
  case h_8 =>
    obtain ⟨n, l, rfl, code, rfl⟩ := named_eq_some.1 resolved
    rw [link_ofCode_eq_some] at code
    exact code ▸ rfl
  case h_10 =>
    obtain ⟨n, k, rfl, code, rfl⟩ := named_eq_some.1 resolved
    obtain ⟨range, rfl⟩ := sourceCode_eq_some.1 code
    exact ⟨range, rfl⟩
  case h_11 =>
    obtain ⟨n, k, rfl, code, rfl⟩ := named_eq_some.1 resolved
    obtain ⟨range, rfl⟩ := sourceCode_eq_some.1 code
    exact ⟨range, rfl⟩
  case h_12 => cases resolved
  all_goals
    obtain ⟨rfl, rfl⟩ := alone_eq_some.1 resolved
    rfl

theorem resolveParam_of_spelt {p : ParamName} {x : Param} (spelt : x.spelt p) : resolveParam p = some x := by
  cases x with
  | weight l =>
    obtain rfl := spelt
    exact congrArg (Option.map Param.weight) (link_ofCode_code l)
  | idleSlice f =>
    obtain rfl := spelt
    exact congrArg (Option.map Param.idleSlice) (ofCode_code f)
  | window l =>
    obtain rfl := spelt
    exact congrArg (Option.map Param.window) (link_ofCode_code l)
  | routing n =>
    obtain ⟨range, rfl⟩ := spelt
    exact congrArg (Option.map Param.routing) (if_pos range)
  | enable n =>
    obtain ⟨range, rfl⟩ := spelt
    exact congrArg (Option.map Param.enable) (if_pos range)
  | _ =>
    obtain rfl := spelt
    rfl

theorem resolveParam_iff (p : ParamName) (x : Param) : resolveParam p = some x ↔ x.spelt p :=
  ⟨spelt_of_resolveParam, resolveParam_of_spelt⟩

/-! ## Parameters read and set -/

theorem serveReadParameter_eq {p : ParamName} {x : Param} (resolved : resolveParam p = some x) (s : State) :
    serveReadParameter p s = (s, Reply.done (s.paramBytes x)) := by
  simp [serveReadParameter, resolved]

/-- A parameter without condition, with a value in its range, is set (R178). -/
theorem serveSetParameter_done {p : ParamName} {x : Param} {v : Nat} (resolved : resolveParam p = some x) (free : x ≠ .clearance)
    (ok : valueOk x v = true) (s : State) : serveSetParameter p v s = ((applyParam x v s).1, Reply.of .done) := by
  rw [serveSetParameter, resolved]
  cases x with
  | clearance => exact absurd rfl free
  | pointer => cases ok
  | served => cases ok
  | _ => rfl

/-! ## The obstacle of a new clearance (R59) -/

theorem restsBadly_iff (s : State) (m : Mover) : s.restsBadly m = true ↔ RestingMeets s m := by
  have keepout (a : Region) (n : Nat) : (s.keepoutObstacle a n).isSome = true ↔
      ∃ x, Tab.record? s.keepouts n = some x ∧ a.conflicts x.region = true := by
    rw [State.keepoutObstacle]
    cases Tab.record? s.keepouts n <;> simp
  simp only [State.restsBadly, State.restingMovers, State.moversMeet, RestingMeets, Bool.or_eq_true, List.any_eq_true, List.mem_filter,
    Bool.and_eq_true, decide_eq_true_eq, Option.any_eq_true, keepout, Tab.mem_numbers]
  constructor
  · rintro (⟨k, ⟨mem, resting⟩, other, a, found, b, foundK, meets⟩ | ⟨a, found, n, ⟨low, high⟩, x, record, meets⟩)
    · exact ⟨a, found, .inl ⟨k, mem, other.symm, resting, b, foundK, meets⟩⟩
    · exact ⟨a, found, .inr ⟨n, x, low, high, record, meets⟩⟩
  · rintro ⟨a, found, ⟨k, mem, other, resting, b, foundK, meets⟩ | ⟨n, x, low, high, record, meets⟩⟩
    · exact .inl ⟨k, ⟨mem, resting⟩, Ne.symm other, a, found, b, foundK, meets⟩
    · exact .inr ⟨a, found, n, ⟨low, high⟩, x, record, meets⟩

theorem lead_of_moverAt {s : State} {n : Nat} {m : Mover} (found : s.moverAt n = some m) : s.lead m = some n := by
  unfold State.moverAt at found
  split at found
  · cases found
  · cases found
    rfl
  · split at found
    · cases found
      assumption
    · cases found

/-- The movers stand in the order of their lowest set numbers (R34). -/
theorem movers_ordered (s : State) : s.movers.Pairwise fun m k => (s.lead m).getD 0 ≤ (s.lead k).getD 0 := by
  refine List.Pairwise.filterMap _ (fun n k less m atN j atK => ?_) (List.pairwise_lt_range' (s := 1) (n := 128))
  rw [lead_of_moverAt atN, lead_of_moverAt atK]
  exact less.le

theorem mem_restingMovers {s : State} {m : Mover} : m ∈ s.restingMovers ↔ m ∈ s.movers ∧ s.allResting m = true := List.mem_filter

theorem clearanceObstacle_none_iff {v : Nat} {s w : State} (changed : w = { s with clearance := v }) :
    s.clearanceObstacle v = none ↔ ∀ m ∈ w.movers, w.allResting m = true → ¬ RestingMeets w m := by
  have search : s.clearanceObstacle v = (w.restingMovers.find? w.restsBadly).map fun m => moverAsObstacle m .region := by rw [changed]; rfl
  rw [search, Option.map_eq_none_iff, List.find?_eq_none]
  simp only [mem_restingMovers, restsBadly_iff, and_imp]

/-- The first mover of the search has the lowest set number of those that meet something. -/
theorem clearanceObstacle_some {v : Nat} {s w : State} (changed : w = { s with clearance := v }) {o : Obstacle}
    (refused : s.clearanceObstacle v = some o) : ∃ m ∈ w.movers, w.allResting m = true ∧ RestingMeets w m ∧
      (∀ k ∈ w.movers, w.allResting k = true → RestingMeets w k → (w.lead m).getD 0 ≤ (w.lead k).getD 0) ∧
      o = moverAsObstacle m .region := by
  have search : s.clearanceObstacle v = (w.restingMovers.find? w.restsBadly).map fun m => moverAsObstacle m .region := by rw [changed]; rfl
  rw [search, Option.map_eq_some_iff] at refused
  obtain ⟨m, found, rfl⟩ := refused
  obtain ⟨meets, before, after, parts, earlier⟩ := List.find?_eq_some_iff_append.1 found
  obtain ⟨mem, resting⟩ := mem_restingMovers.1 (List.mem_of_find?_eq_some found)
  refine ⟨m, mem, resting, (restsBadly_iff w m).1 meets, fun k memK restingK meetsK => ?_, rfl⟩
  have ordered : (before ++ m :: after).Pairwise fun m k => (w.lead m).getD 0 ≤ (w.lead k).getD 0 := parts ▸ (movers_ordered w).filter _
  have place : k ∈ before ++ m :: after := parts ▸ mem_restingMovers.2 ⟨memK, restingK⟩
  obtain first | rfl | later : k ∈ before ∨ k = m ∨ k ∈ after := by simpa using place
  · have good := earlier k first
    rw [(restsBadly_iff w k).2 meetsK] at good
    cases good
  · exact le_refl _
  · exact (List.pairwise_cons.1 (List.pairwise_append.1 ordered).2.1).1 k later

/-- Settles O10: the STATUS and READ ATTENTION payloads, the parameters set and read, and the clearance obstacle. -/
theorem statusAndParameters : Obligations.StatusAndParameters := by
  refine ⟨fun l tag s on slot => statusImage_eq s l ▸ presence_settled tag on slot, fun l tag s desk => ?_,
    fun l tag p x v s desk resolved free ok => ?_, fun l tag p x s desk resolved => ?_,
    fun p x => (resolveParam_iff p x).trans (by cases x <;> rfl),
    fun v s w changed => ⟨clearanceObstacle_none_iff changed, fun o refused => ?_⟩⟩
  · obtain ⟨t, taken, answered⟩ := exec_lookup 49 (i := .readAttention l tag) (r := .readAttention) desk rfl (by decide) rfl rfl rfl
    exact ⟨t, s.attention.image, taken, answered, attentionImage_length _,
      fun n range => sourceBytes_eq s.attention range ▸ attentionImage_source s.attention range,
      outputBytes_eq s.attention ▸ attentionImage_outputs s.attention⟩
  · have form : formOk (.setParameter p v) = true := by
      show (resolveParam p).any (fun x => valueOk x v) = true
      rw [resolved]
      exact ok
    refine ⟨_, (applyParam x v s).1, exec_taken (r := .setParameter p v) desk rfl form (serveSetParameter_done resolved free ok s),
      answerOnly_queueReply _ l 50 tag _, ?_⟩
    cases x with
    | clearance => exact absurd rfl free
    | _ => rfl
  · have form : formOk (.readParameter p) = true := by
      show (resolveParam p).isSome = true
      rw [resolved]
      rfl
    obtain ⟨t, taken, answered⟩ := exec_lookup 51 (i := .readParameter l tag p) (r := .readParameter p) desk rfl (by decide) rfl form
      (serveReadParameter_eq resolved s)
    refine ⟨t, taken, ?_⟩
    have spelt := spelt_of_resolveParam resolved
    have reads {bytes : List Byte} (same : s.paramBytes x = bytes) : AnswerOnly s t l 51 tag (Reply.done bytes) := same ▸ answered
    cases x with
    | mode => exact reads (modeByte _)
    | routing n => exact reads (routingByte spelt.1)
    | enable n => exact reads (enableByte spelt.1)
    | _ => exact reads rfl
  · obtain ⟨m, mem, resting, meets, lowest, rfl⟩ := clearanceObstacle_some changed refused
    exact ⟨m, mem, resting, meets, lowest, rfl⟩

end Sys2Proof.Machine
end

section
/-! SUPPORT. The frames of the desk links: their layout, the request their payload spells, and the response frame (R165, R192, R193). -/

namespace Sys2Proof.Machine

/-! ## The layout of a request frame (R165, R192) -/

theorem toNat_byteOf {n : Nat} (small : n < 256) : (byteOf n).toNat = n := by
  rw [byteOf, BitVec.toNat_ofNat, Nat.mod_eq_of_lt small]

section
variable (k hi lo : Byte) {p : List Byte}

/-- The bytes of a frame: kind, length, payload and CRC-16. -/
def frameBytes (p : List Byte) : List Byte := k :: byteOf p.length :: (p ++ [hi, lo])

theorem frameBytes_length : (frameBytes k hi lo p).length = p.length + 4 := by simp [frameBytes]

theorem frameBytes_getD_one : (frameBytes k hi lo p).getD 1 0#8 = byteOf p.length := rfl

/-- The frame as the bytes under its CRC-16, and the CRC-16. -/
theorem frameBytes_eq : frameBytes k hi lo p = (k :: byteOf p.length :: p) ++ [hi, lo] := rfl

theorem goodFrame_frameBytes (short : p.length ≤ 90) :
    goodFrame (frameBytes k hi lo p) false = true ↔ word16 hi lo = crc16 (k :: byteOf p.length :: p) := by
  have covered : p.length + 4 - 2 = (k :: byteOf p.length :: p).length := rfl
  have high : (frameBytes k hi lo p).getD (p.length + 4 - 2) 0#8 = hi := by
    rw [covered, frameBytes_eq, List.getD_append_right _ _ _ _ le_rfl, Nat.sub_self]
    rfl
  have low : (frameBytes k hi lo p).getD (p.length + 4 - 1) 0#8 = lo := by
    have last : p.length + 4 - 1 = (k :: byteOf p.length :: p).length + 1 := rfl
    rw [last, frameBytes_eq, List.getD_append_right _ _ _ _ (Nat.le_succ _), Nat.succ_sub le_rfl, Nat.sub_self]
    rfl
  have body : (frameBytes k hi lo p).take (p.length + 4 - 2) = k :: byteOf p.length :: p := by
    rw [covered, frameBytes_eq, List.take_left]
  rw [goodFrame_iff, frameBytes_length, frameBytes_getD_one, toNat_byteOf (by omega), high, low, body]
  exact ⟨fun ⟨_, _, _, _, _, crc⟩ => crc, fun crc => ⟨rfl, by omega, by omega, rfl, short, crc⟩⟩

theorem frameOf_frameBytes (short : p.length ≤ 90) : frameOf (frameBytes k hi lo p) = { kind := k, payload := p } := by
  rw [frameOf, frameBytes_getD_one, toNat_byteOf (by omega)]
  exact congrArg (Frame.mk k) (List.take_left ..)

end

/-- A good frame has the layout of R192. -/
theorem exists_frameBytes {k : Byte} {rest : List Byte} (good : goodFrame (k :: rest) false = true) :
    ∃ (p : List Byte) (hi lo : Byte), p.length ≤ 90 ∧ k :: rest = frameBytes k hi lo p := by
  obtain ⟨-, long, -, length, short, -⟩ := (goodFrame_iff _ _).1 good
  obtain ⟨n, body, rfl⟩ : ∃ n body, rest = n :: body := List.exists_cons_of_length_pos (by simp at long; omega)
  have length : n.toNat + 2 = body.length := by simpa using length
  have short : n.toNat ≤ 90 := short
  obtain ⟨hi, lo, crc⟩ := List.length_eq_two.1 (show (body.drop n.toNat).length = 2 by rw [List.length_drop]; omega)
  have size : (body.take n.toNat).length = n.toNat := by rw [List.length_take]; omega
  refine ⟨body.take n.toNat, hi, lo, by omega, ?_⟩
  rw [frameBytes, size, ← crc, List.take_append_drop, byteOf_toNat]

theorem goodFrame_iff_spelt (k : Byte) (rest : List Byte) : goodFrame (k :: rest) false = true ↔
    ∃ (p : List Byte) (hi lo : Byte), p.length ≤ 90 ∧ rest = byteOf p.length :: (p ++ [hi, lo]) ∧
      word16 hi lo = crc16 (k :: byteOf p.length :: p) ∧ frameOf (k :: rest) = { kind := k, payload := p } := by
  constructor
  · intro good
    obtain ⟨p, hi, lo, short, layout⟩ := exists_frameBytes good
    rw [layout] at good ⊢
    exact ⟨p, hi, lo, short, List.tail_eq_of_cons_eq layout, (goodFrame_frameBytes k hi lo short).1 good,
      frameOf_frameBytes k hi lo short⟩
  · rintro ⟨p, hi, lo, short, rfl, crc, -⟩
    exact (goodFrame_frameBytes k hi lo short).2 crc

/-! ## The kind of a request that a payload spells (R192) -/

theorem readNone_kind {r q : Request} {body : List Byte} (spelt : readNone r body = some q) : kindOf q = kindOf r := by
  unfold readNone at spelt
  split at spelt <;> cases spelt
  rfl

theorem readOne_kind {f : Nat → Request} {m : Nat} {body : List Byte} {q : Request} (spelt : readOne f body = some q)
    (kind : ∀ n, kindOf (f n) = m) : kindOf q = m := by
  unfold readOne at spelt
  split at spelt <;> cases spelt
  exact kind _

theorem readOneOrAll_kind {f : Option Nat → Request} {m : Nat} {body : List Byte} {q : Request} (spelt : readOneOrAll f body = some q)
    (kind : ∀ n, kindOf (f n) = m) : kindOf q = m := by
  unfold readOneOrAll at spelt
  split at spelt
  · split at spelt <;> cases spelt
    exact kind _
  · cases spelt

section
variable {body : List Byte} {q : Request}

theorem readClaim_kind (spelt : readClaim body = some q) : kindOf q = 18 := by
  unfold readClaim at spelt
  split at spelt
  · split at spelt <;> cases spelt
    rfl
  · cases spelt

theorem readRetarget_kind (spelt : readRetarget body = some q) : kindOf q = 19 := by
  unfold readRetarget at spelt
  split at spelt
  · split at spelt <;> cases spelt
    rfl
  · cases spelt

theorem readKeepout_kind (spelt : readKeepout body = some q) : kindOf q = 22 := by
  unfold readKeepout at spelt
  split at spelt
  · split at spelt <;> cases spelt
    rfl
  · cases spelt

theorem readList_kind (spelt : readList body = some q) : kindOf q = 27 := by
  unfold readList at spelt
  split at spelt
  · split at spelt <;> cases spelt
    rfl
  · cases spelt

theorem readOpenGroup_kind (spelt : readOpenGroup body = some q) : kindOf q = 29 := by
  unfold readOpenGroup at spelt
  split at spelt
  · split at spelt <;> cases spelt
    rfl
  · cases spelt

theorem readConfigure_kind (spelt : readConfigure body = some q) : kindOf q = 33 := by
  unfold readConfigure at spelt
  split at spelt
  · split at spelt
    · unfold readConfigureHang at spelt
      split at spelt <;> cases spelt
      rfl
    · cases spelt
  · cases spelt

theorem readRehang_kind (spelt : readRehang body = some q) : kindOf q = 35 := by
  unfold readRehang at spelt
  split at spelt <;> cases spelt
  rfl

theorem readBind_kind (spelt : readBind body = some q) : kindOf q = 39 := by
  unfold readBind at spelt
  split at spelt
  · cases spelt
  · split at spelt <;> cases spelt
    rfl

theorem readLookupStation_kind (spelt : readLookupStation body = some q) : kindOf q = 46 := by
  unfold readLookupStation at spelt
  split at spelt <;> cases spelt
  rfl

theorem readClearAttention_kind (spelt : readClearAttention body = some q) : kindOf q = 47 := by
  unfold readClearAttention at spelt
  split at spelt
  · split at spelt <;> cases spelt
    rfl
  · cases spelt

theorem readSetParameter_kind (spelt : readSetParameter body = some q) : kindOf q = 50 := by
  unfold readSetParameter at spelt
  split at spelt
  · split at spelt <;> cases spelt
    rfl
  · split at spelt <;> cases spelt
    rfl
  · cases spelt

theorem readReadParameter_kind (spelt : readReadParameter body = some q) : kindOf q = 51 := by
  unfold readReadParameter at spelt
  split at spelt
  · split at spelt <;> cases spelt
    rfl
  · cases spelt

theorem readRequest_kind {k : Nat} (spelt : readRequest k body = some q) : kindOf q = k := by
  unfold readRequest at spelt
  split at spelt
  case h_1 | h_2 | h_3 | h_5 | h_6 | h_13 | h_32 | h_38 => exact readNone_kind spelt
  case h_25 | h_26 | h_37 => exact readOneOrAll_kind spelt fun _ => rfl
  case h_7 => exact readClaim_kind spelt
  case h_8 => exact readRetarget_kind spelt
  case h_11 => exact readKeepout_kind spelt
  case h_16 => exact readList_kind spelt
  case h_18 => exact readOpenGroup_kind spelt
  case h_22 => exact readConfigure_kind spelt
  case h_24 => exact readRehang_kind spelt
  case h_28 => exact readBind_kind spelt
  case h_35 => exact readLookupStation_kind spelt
  case h_36 => exact readClearAttention_kind spelt
  case h_39 => exact readSetParameter_kind spelt
  case h_40 => exact readReadParameter_kind spelt
  case h_41 => cases spelt
  all_goals exact readOne_kind spelt fun _ => rfl

end

/-! ## The CLAIM payload (R193) -/

theorem readClaim_length {body : List Byte} (other : body.length ≠ 14) : readClaim body = none := by
  unfold readClaim
  split
  · exact absurd rfl other
  · rfl

/-! ## The response frame (R192) -/

theorem bitsNat_testBit (bs : List Bool) (n : Nat) : (bitsNat bs).testBit n = bs.getD n false := by
  induction bs generalizing n with
  | nil => simp [bitsNat]
  | cons b bs ih =>
    have bit : bitsNat (b :: bs) = Nat.bit b (bitsNat bs) := by
      rw [Nat.bit_val, bitsNat, Nat.add_comm]
    rw [bit]
    cases n with
    | zero => exact Nat.testBit_bit_zero ..
    | succ n => exact (Nat.testBit_bit_succ ..).trans (ih n)

/-- Three bytes, most significant first, hold the low 24 bits of a number. -/
theorem getLsbD_threeBytes (m : Nat) {n : Nat} (range : n < 24) :
    (byteOf (m / 65536) ++ byteOf (m / 256) ++ byteOf m).getLsbD n = m.testBit n := by
  simp only [byteOf, BitVec.getLsbD_append, BitVec.getLsbD_ofNat]
  by_cases low : n < 8
  · simp [low]
  · by_cases middle : n - 8 < 8
    · have place : 8 + (n - 8) = n := by omega
      have shifted : (m / 256).testBit (n - 8) = m.testBit n := by
        rw [show 256 = 2 ^ 8 from rfl, Nat.testBit_div_two_pow, Nat.add_comm, place]
      simp [low, middle, shifted]
    · have place : 16 + (n - 8 - 8) = n := by omega
      have shifted : (m / 65536).testBit (n - 8 - 8) = m.testBit n := by
        rw [show 65536 = 2 ^ 16 from rfl, Nat.testBit_div_two_pow, Nat.add_comm, place]
      have high : n - 8 - 8 < 8 := by omega
      simp [low, middle, shifted, high]

/-- No source above 19 is latched. -/
theorem latched_getD (a : AttentionRec) (n : Nat) : (sourceCodes.map a.latched).getD n false = decide (1 ≤ a.count n) := by
  by_cases range : n < 20
  · simp [sourceCodes, AttentionRec.latched, range]
  · have none : a.count n = 0 := by
      rw [AttentionRec.count, Vector.getElem?_eq_none (by omega)]
      rfl
    simp [sourceCodes, none, range]

end Sys2Proof.Machine
end

section
/-! PROOF. The requests of a link taken from its layers and from its priority slot, and what answers them (O16). -/

namespace Sys2Proof.Machine

/-! ## The answer to a frame (R165, R167, R170) -/

theorem answerFrame_malformed {l : Link} {x : Frame} {s : State} (bad : namesRequest x.kind = false ∨ x.payload.length < 2) :
    answerFrame l x s = (s, Reply.of .malformed) := by
  refine if_pos ?_
  obtain nameless | short := bad
  · rw [nameless]
    rfl
  · rw [decide_eq_true short, Bool.or_true]

section
variable {l : Link} {x : Frame} {s : State} {a b : Byte} {p : List Byte}

theorem answerFrame_named (named : namesRequest x.kind = true) (payload : x.payload = a :: b :: p) : answerFrame l x s =
    if (s.link l).role.permits x.kind.toNat then
      match readRequest x.kind.toNat p with
      | none => (s, Reply.of .malformed)
      | some r => answer l r s
    else (s, Reply.of .notPermitted) := by
  have long : ¬ x.payload.length < 2 := by
    rw [payload]
    simp
  rw [answerFrame, named, decide_eq_false long, payload]
  cases (s.link l).role.permits x.kind.toNat <;> rfl

/-- A payload of another layout than that of its kind. -/
theorem answerFrame_unread (named : namesRequest x.kind = true) (payload : x.payload = a :: b :: p)
    (unread : readRequest x.kind.toNat p = none) :
    answerFrame l x s = (s, Reply.of (if (s.link l).role.permits x.kind.toNat then .malformed else .notPermitted)) := by
  rw [answerFrame_named named payload, unread]
  split <;> rfl

/-- A payload that spells a request is answered as that request. -/
theorem answerFrame_read {r : Request} (named : namesRequest x.kind = true) (payload : x.payload = a :: b :: p)
    (spelt : readRequest x.kind.toNat p = some r) : answerFrame l x s = answer l r s := by
  rw [answerFrame_named named payload, spelt]
  split
  · rfl
  · rename_i barred
    rw [← readRequest_kind spelt] at barred
    exact (answer_notPermitted (Bool.eq_false_of_not_eq_true barred)).symm

end

theorem permits_regular {x : Role} (on : x ≠ .off) {k : Nat} (regular : 16 ≤ k) :
    x.permits k = true ↔ x = .full ∨ k ∈ lookupKinds := by
  cases x with
  | full => simp [Role.permits]
  | hold =>
    have notPriority : k ∉ [2, 3, 4] := by simp; omega
    simp [Role.permits, notPriority]
  | lookup => simp [Role.permits]
  | off => exact absurd rfl on

theorem permits_priority {x : Role} (on : x ≠ .off) {k : Nat} (low : 1 ≤ k) (high : k ≤ 4) :
    x.permits k = true ↔ ¬ (x = .lookup ∧ k ≠ 1) := by
  cases x with
  | full => simp [Role.permits]
  | hold =>
    have listed : k ∈ lookupKinds ∨ k ∈ [2, 3, 4] := by simp [lookupKinds]; omega
    simpa [Role.permits] using listed
  | lookup =>
    simp [Role.permits, lookupKinds]
    omega
  | off => exact absurd rfl on

/-! ## The oldest POSTED request (R170) -/

/-- The oldest POSTED request taken from its layer. -/
def State.layerFreed (s : State) (l : Link) (n : LayerName) (ns : List LayerName) : State :=
  { s with links := s.links.put l { (s.link l).putLayer n .free with posted := ns } }

section
variable {l : Link} {n : LayerName} {ns : List LayerName} {x : Frame} {s : State}

theorem link_layerFreed : (s.layerFreed l n ns).link l = { (s.link l).putLayer n .free with posted := ns } := PerLink.get_put_self ..

theorem role_layerFreed : ((s.layerFreed l n ns).link l).role = (s.link l).role := by
  rw [link_layerFreed]
  cases n <;> rfl

theorem queue_layerFreed : ((s.layerFreed l n ns).link l).queue = (s.link l).queue := by
  rw [link_layerFreed]
  cases n <;> rfl

theorem openDesk_layerFreed (desk : OpenDesk s l) : OpenDesk (s.layerFreed l n ns) l := by
  unfold OpenDesk
  rw [role_layerFreed, queue_layerFreed]
  exact desk

theorem exec_posted (posted : (s.link l).posted = n :: ns) (layer : (s.link l).layer n = .posted x) (desk : OpenDesk s l) :
    exec (.postedRequestTaken l) s =
      .next (queueReply l x.kind (tagOf x.payload) (answerFrame l x (s.layerFreed l n ns))) := by
  refine congrArg Host.Outcome.next ?_
  simp only [State.takePosted, posted, layer, canQueue_of_openDesk desk, if_true]
  rfl

/-- An answer of the link that changes no record. -/
theorem posted_answerOnly (posted : (s.link l).posted = n :: ns) (layer : (s.link l).layer n = .posted x) (desk : OpenDesk s l) {y : Reply}
    (answered : answerFrame l x (s.layerFreed l n ns) = (s.layerFreed l n ns, y)) :
    ∃ t, exec (.postedRequestTaken l) s = .next t ∧ AnswerOnly (s.layerFreed l n ns) t l x.kind.toNat (tagOf x.payload) y := by
  refine ⟨_, exec_posted posted layer desk, ?_⟩
  rw [answered]
  have only := answerOnly_queueReply (s.layerFreed l n ns) l x.kind.toNat (tagOf x.payload) y
  rwa [byteOf_toNat] at only

/-- A payload that spells a request: the row of that request, from the state with the layer FREE. -/
theorem posted_request (posted : (s.link l).posted = n :: ns) (layer : (s.link l).layer n = .posted x) (desk : OpenDesk s l)
    {a b : Byte} {p : List Byte} {r : Request} {i : Instr} (payload : x.payload = a :: b :: p) (low : 16 ≤ x.kind.toNat)
    (high : x.kind.toNat ≤ 51) (spelt : readRequest x.kind.toNat p = some r) (row : requestOf i = some (l, word16 a b, r)) :
    exec (.postedRequestTaken l) s = exec i (s.layerFreed l n ns) := by
  have kind := readRequest_kind spelt
  rw [exec_posted posted layer desk, exec_request _ row, takeRequest_regular (by omega), takeRegular,
    if_pos (canQueue_of_openDesk (openDesk_layerFreed desk)),
    answerFrame_read ((namesRequest_iff _).2 (.inr ⟨low, high⟩)) payload spelt, kind, byteOf_toNat, payload]
  rfl

end

theorem takePosted_full {l : Link} {s : State} (full : 4 ≤ (s.link l).queue.length) : s.takePosted l = s := by
  have unable : (s.link l).canQueue = false := Bool.eq_false_iff.2 fun able => by
    have := ((canQueue_iff _).1 able).2
    omega
  unfold State.takePosted
  rw [unable]
  split
  · rfl
  · split <;> rfl

/-! ## The request of the priority slot (R171) -/

/-- The request taken from the priority slot. -/
def State.slotEmptied (s : State) (l : Link) : State := { s with links := s.links.put l { s.link l with slot := none } }

section
variable {l : Link} {x : SlotRequest} {s : State}

theorem link_slotEmptied : (s.slotEmptied l).link l = { s.link l with slot := none } := PerLink.get_put_self ..

theorem exec_slot (slot : (s.link l).slot = some x) (on : (s.link l).role ≠ .off) (free : (s.link l).priorityResponse = none) :
    exec (.priorityRequestTaken l) s =
      .next (slotReply l x.frame.kind (tagOf x.frame.payload) x.superseded (answerFrame l x.frame (s.slotEmptied l))) := by
  refine congrArg Host.Outcome.next ?_
  simp only [State.takeSlot, slot, canAnswer_of_on on free, if_true]
  rfl

/-- A response in the slot with another superseded mark. -/
theorem slotReply_superseded (l : Link) (k : Byte) (tag : Word16) (old new : Bool) (p : State × Reply) :
    slotReply l k tag new p =
      { slotReply l k tag old p with links := (slotReply l k tag old p).links.put l { (slotReply l k tag old p).link l with
          priorityResponse := ((slotReply l k tag old p).link l).priorityResponse.map fun y => { y with superseded := new } } } := by
  have changed := updLink_updLink p.1 l (fun r => { r with priorityResponse := some (p.1.response k tag old p.2) })
    fun r => { r with priorityResponse := r.priorityResponse.map fun y => { y with superseded := new } }
  exact changed.symm

/-- A payload that spells a request: the row of that request, from the state with the slot empty, and then its mark. -/
theorem slot_request (slot : (s.link l).slot = some x) (on : (s.link l).role ≠ .off) (free : (s.link l).priorityResponse = none)
    {a b : Byte} {p : List Byte} {r : Request} {i : Instr} (payload : x.frame.payload = a :: b :: p) (low : 1 ≤ x.frame.kind.toNat)
    (high : x.frame.kind.toNat ≤ 4) (spelt : readRequest x.frame.kind.toNat p = some r) (row : requestOf i = some (l, word16 a b, r)) :
    ∃ t u, exec (.priorityRequestTaken l) s = .next t ∧ exec i (s.slotEmptied l) = .next u ∧
      t = { u with links := u.links.put l { u.link l with
        priorityResponse := (u.link l).priorityResponse.map fun y => { y with superseded := x.superseded } } } := by
  have kind := readRequest_kind spelt
  have able : ((s.slotEmptied l).link l).canAnswer = true := by
    rw [link_slotEmptied]
    exact canAnswer_of_on on free
  have answered : answerFrame l x.frame (s.slotEmptied l) = answer l r (s.slotEmptied l) :=
    answerFrame_read ((namesRequest_iff _).2 (.inl ⟨low, high⟩)) payload spelt
  have taken : takeRequest l (word16 a b) r (s.slotEmptied l) =
      slotReply l x.frame.kind (tagOf x.frame.payload) false (answer l r (s.slotEmptied l)) := by
    rw [takeRequest_priority (by omega), takePriority, if_pos able, kind, byteOf_toNat, payload]
    rfl
  refine ⟨_, _, exec_slot slot on free, exec_request _ row, ?_⟩
  rw [answered, taken]
  exact slotReply_superseded ..

/-- An answer of the link that changes no record. -/
theorem slot_answerOnly (slot : (s.link l).slot = some x) (on : (s.link l).role ≠ .off) (free : (s.link l).priorityResponse = none)
    {y : Result} (answered : answerFrame l x.frame (s.slotEmptied l) = (s.slotEmptied l, Reply.of y)) :
    ∃ t, exec (.priorityRequestTaken l) s = .next t ∧
      t = { s.slotEmptied l with links := (s.slotEmptied l).links.put l { (s.slotEmptied l).link l with
        priorityResponse := some ((s.slotEmptied l).response x.frame.kind (tagOf x.frame.payload) x.superseded (Reply.of y)) } } := by
  refine ⟨_, exec_slot slot on free, ?_⟩
  rw [answered]
  rfl

end

/-- A good priority frame that ends while the priority response slot is empty is taken in the same step (R171). -/
theorem frameEnd_slot {l : Link} {b : Byte} {rest : List Byte} {s : State}
    (receiving : (s.link l).receiving = some { first := b, dest := .slot }) (good : goodFrame (b :: rest) false = true)
    (present : (s.link l).presence ≠ .lost) :
    exec (.deskFrameEnd l rest false) s = exec (.priorityRequestTaken l) { s with links := s.links.put l { s.link l with
      receiving := none, presence := .present, presenceTimer := some { elapsed := 0, window := (s.link l).window }
      slot := some { frame := frameOf (b :: rest), superseded := (s.link l).slot.isSome } } } := by
  have placed := updLink_updLink s l LinkRec.heard fun x => x.place (frameOf (b :: rest))
  exact congrArg Host.Outcome.next ((frameEnd_heard receiving good present).trans (congrArg (State.takeSlot · l) placed))

/-! ## The response frame (R192) -/

/-- The bytes of a response frame under its CRC-16. -/
def responseHead (s : State) (kind : Byte) (tag : Word16) (sup : Bool) (y : Reply) (sources : List Byte) : List Byte :=
  [kind ||| 0x80#8, byteOf (9 + y.payload.length)] ++ bytes16 tag ++ [byteOf y.result.code] ++
    flags [sup, s.attention.output .urgent, s.attention.output .routine] ++ sources ++ bytes16 s.attention.sequence ++ y.payload

/-- The three bytes of the latched sources. -/
def sourceField (a : AttentionRec) : List Byte :=
  [byteOf (bitsNat a.summary.latched / 65536), byteOf (bitsNat a.summary.latched / 256), byteOf (bitsNat a.summary.latched)]

theorem response_frame (s : State) (kind : Byte) (tag : Word16) (sup : Bool) (y : Reply) : (s.response kind tag sup y).frame =
    responseHead s kind tag sup y (sourceField s.attention) ++
      bytes16 (crc16 (responseHead s kind tag sup y (sourceField s.attention))) := by
  have length : ((s.response kind tag sup y).header ++ (s.response kind tag sup y).payload).length = 9 + y.payload.length :=
    List.length_append
  rw [Response.frame, length]
  rfl

theorem sourceField_bit (a : AttentionRec) {n : Nat} (range : n < 24) :
    (byteOf (bitsNat a.summary.latched / 65536) ++ byteOf (bitsNat a.summary.latched / 256) ++
      byteOf (bitsNat a.summary.latched)).getLsbD n = decide (1 ≤ a.count n) := by
  rw [getLsbD_threeBytes _ range, bitsNat_testBit]
  exact latched_getD a n

/-- Settles O16: frames by their layout, the requests of the layers and of the priority slot by the answer to their frames, the CLAIM
payload by its reader, and the response frame by its header. -/
theorem requestsTakenFromLink : Obligations.RequestsTakenFromLink := by
  refine ⟨goodFrame_iff_spelt, ?_, fun l s full => congrArg Host.Outcome.next (takePosted_full full), ?_,
    fun l b rest s _ receiving good present _ => frameEnd_slot receiving good present, ?_, fun body => readClaim_length,
    fun s kind tag sup y => ⟨_, _, _, _, rfl, response_frame s kind tag sup y, fun n range => sourceField_bit s.attention range⟩⟩
  · rintro l n ns x s w posted layer desk regular rfl
    refine ⟨fun bad => posted_answerOnly posted layer desk (answerFrame_malformed ?_), fun a b p payload low high unread => ?_,
      fun a b p r i payload low high spelt row => posted_request posted layer desk payload low high spelt row, ?_⟩
    · obtain short | few | many := bad
      · exact .inr short
      · refine .inl (Bool.eq_false_iff.2 fun named => ?_)
        have := (namesRequest_iff _).1 named
        omega
      · refine .inl (Bool.eq_false_iff.2 fun named => ?_)
        have := (namesRequest_iff _).1 named
        omega
    · have named := (namesRequest_iff x.kind).2 (.inr ⟨low, high⟩)
      have answered := answerFrame_unread (l := l) (s := s.layerFreed l n ns) named payload unread
      rw [role_layerFreed] at answered
      simp only [permits_regular desk.1 low] at answered
      have taken := posted_answerOnly posted layer desk answered
      rw [payload] at taken
      exact taken
    · rcases x.payload with _ | ⟨a, _ | ⟨b, p⟩⟩ <;> rfl
  · rintro l x s w slot on free low high rfl
    refine ⟨fun a b p r i payload spelt row => slot_request slot on free payload low high spelt row, fun y answer =>
      slot_answerOnly slot on free ?_⟩
    obtain ⟨short, rfl⟩ | ⟨a, b, p, payload, unread, rfl⟩ := answer
    · exact answerFrame_malformed (.inr short)
    · have named := (namesRequest_iff x.frame.kind).2 (.inl ⟨low, high⟩)
      have answered := answerFrame_unread (l := l) (s := s.slotEmptied l) named payload unread
      rw [link_slotEmptied] at answered
      simp only [permits_priority on low high, ite_not] at answered
      exact answered
  · intro f g m c1 c0 a1 a0 b1 b0 w1 w0 n d1 d0
    simp only [readRequest, readClaim]
    refine if_congr ?_ rfl rfl
    simp [onlyBits]

end Sys2Proof.Machine
end

section
/-! PROOF. The latches and the attention outputs (O19), CLEAR ATTENTION and CLEAR FAULTS (O20). -/

namespace Sys2Proof.Machine

/-! ## The attention outputs (R183) -/

theorem asserts_iff (a : AttentionRec) (r : Routing) (n : Nat) :
    a.asserts r n = true ↔ 1 ≤ a.count n ∧ a.enabled[n]? = some true ∧ a.routing[n]? = some r := by
  have enabled : (a.enabled[n]?).getD false = true ↔ a.enabled[n]? = some true := by cases a.enabled[n]? <;> simp
  simp only [AttentionRec.asserts, AttentionRec.latched, Bool.and_eq_true, decide_eq_true_eq, enabled, and_assoc]

theorem output_iff (a : AttentionRec) (r : Routing) :
    a.output r = true ↔ ∃ n, n < 20 ∧ 1 ≤ a.count n ∧ a.enabled[n]? = some true ∧ a.routing[n]? = some r := by
  simp only [AttentionRec.output, sourceCodes, List.any_eq_true, List.mem_range, asserts_iff]

/-- Settles O19: the count written and the counts beside it, and an output source by source. -/
theorem latchesAndOutputs : Obligations.LatchesAndOutputs := by
  refine ⟨fun a src => ⟨?_, fun n other => ?_, rfl⟩, output_iff⟩
  · rw [count_latchTimes, if_pos rfl]
  · rw [count_latchTimes, if_neg other]

/-! ## CLEAR ATTENTION (R185) -/

theorem clear_cons (a : AttentionRec) (c : Nat) (codes : List Nat) : a.clear (c :: codes) = (a.clear [c]).clear codes := rfl

theorem count_clear_one (a : AttentionRec) (c n : Nat) : (a.clear [c]).count n = if n = c then 0 else a.count n := by
  show ((a.counts.setIfInBounds c 0)[n]?).getD 0 = _
  rw [Vector.getElem?_setIfInBounds]
  by_cases same : c = n
  · rw [if_pos same, if_pos same.symm]
    split <;> rfl
  · rw [if_neg same, if_neg (Ne.symm same)]
    rfl

theorem count_clear (a : AttentionRec) (codes : List Nat) (n : Nat) :
    (a.clear codes).count n = if n ∈ codes then 0 else a.count n := by
  induction codes generalizing a with
  | nil => rfl
  | cons c codes ih =>
    rw [clear_cons, ih, count_clear_one]
    by_cases head : n = c <;> simp [head]

theorem serveClearAttention_taken {q : ClearReq} {s : State} (holds : ∀ e, q.expected = some e → e = s.attention.sequence.toNat) :
    serveClearAttention q s = ({ s with attention := s.attention.clear (sourcesOf q.sel) }, Reply.of .done) := by
  refine if_neg fun other => ?_
  obtain ⟨e, expected, differs⟩ := (Option.any_eq_true _ _).1 other
  exact of_decide_eq_true differs (holds e expected)

theorem serveClearAttention_refused {q : ClearReq} {s : State} {e : Nat} (expected : q.expected = some e)
    (other : e ≠ s.attention.sequence.toNat) : serveClearAttention q s = (s, Reply.of .wrongState) :=
  if_pos ((Option.any_eq_true _ _).2 ⟨e, expected, decide_eq_true other⟩)

/-! ## CLEAR FAULTS (R189) -/

theorem faultSummary_clearedAll (s : State) (k : Nat) :
    ({ s with attention := { s.attention with faults := s.attention.faults.map FaultSummary.cleared } } : State).faultSummary k =
      (s.faultSummary k).cleared := by
  simp only [State.faultSummary, Tab.get?_map]
  cases Tab.get? s.attention.faults k <;> rfl

/-- CLEAR FAULTS of the sets it names writes the fault summaries alone. -/
theorem serveClearFaults_done {x : Option Nat} (s : State) (range : ∀ n, x = some n → 1 ≤ n ∧ n ≤ 128) :
    ∃ faults, serveClearFaults x s = ({ s with attention := { s.attention with faults := faults } }, Reply.of .done) ∧
      ∀ k, (serveClearFaults x s).1.faultSummary k =
        if x = none ∨ x = some k then (s.faultSummary k).cleared else s.faultSummary k := by
  cases x with
  | none => exact ⟨_, rfl, fun k => (faultSummary_clearedAll s k).trans (if_pos (.inl rfl)).symm⟩
  | some n =>
    refine ⟨_, rfl, fun k => (faultSummary_putFaultSummary s n k _).trans ?_⟩
    by_cases same : k = n
    · rw [if_pos ⟨same, range n rfl⟩, if_pos (.inr (congrArg some same.symm)), same]
    · rw [if_neg fun h => same h.1, if_neg (by simp [Ne.symm same])]

/-! ## The requests taken -/

theorem clearAttention_settled (l : Link) (tag : Word16) (q : ClearReq) (s : State) (desk : FullDesk s l)
    (form : formOk (.clearAttention q) = true) (holds : ∀ e, q.expected = some e → e = s.attention.sequence.toNat) :
    ∃ t, exec (.clearAttention l tag q) s = .next t ∧ t = { s with attention := t.attention, links := t.links } ∧
      t.attention = { s.attention with counts := t.attention.counts } ∧
      (∀ n, n < 20 → q.sel = .all → t.attention.count n = 0) ∧
      (∀ n ns, n < 20 → q.sel = .named ns → t.attention.count n = if n ∈ ns then 0 else s.attention.count n) ∧
      Answered s t l 47 tag (Reply.of .done) := by
  refine ⟨_, exec_taken desk rfl form (serveClearAttention_taken holds), rfl, rfl, fun n source all => ?_,
    fun n ns _ named => ?_, answered_queueReply l 47 tag _ rfl⟩
  · refine (count_clear _ _ n).trans (if_pos ?_)
    rw [all]
    exact List.mem_range.2 source
  · refine (count_clear _ _ n).trans ?_
    rw [named]
    rfl

theorem clearFaults_settled (l : Link) (tag : Word16) (n : Option Nat) (s : State) (desk : FullDesk s l)
    (range : ∀ k, n = some k → 1 ≤ k ∧ k ≤ 128) :
    ∃ t, exec (.clearFaults l tag n) s = .next t ∧ t = { s with attention := t.attention, links := t.links } ∧
      t.attention = { s.attention with faults := t.attention.faults } ∧
      (∀ k, 1 ≤ k → k ≤ 128 → t.faultSummary k = if n = none ∨ n = some k
        then { latest := (s.faultSummary k).latest, classes := FaultClasses.empty, rawCode := none } else s.faultSummary k) ∧
      Answered s t l 48 tag (Reply.of .done) := by
  obtain ⟨faults, served, cleared⟩ := serveClearFaults_done s range
  rw [served] at cleared
  exact ⟨_, exec_taken (r := .clearFaults n) desk rfl (optBetween_of_forall range) served, rfl, rfl, fun k _ _ => cleared k,
    answered_queueReply l 48 tag _ rfl⟩

/-- Settles O20: the counts cleared under the expected sequence number, the refusal under another, and the fault summaries cleared. -/
theorem attentionClears : Obligations.AttentionClears :=
  ⟨clearAttention_settled, fun _ _ _ _ _ desk form expected other =>
    exec_answerOnly desk rfl form (serveClearAttention_refused expected other), clearFaults_settled⟩

end Sys2Proof.Machine
end

section
/-! PROOF. The hand-offs taken by the Attention Unit, the Set Registry and the Travel Monitor (O51). -/

namespace Sys2Proof.Machine

/-! ## Sets that a pass cannot engage -/

/-- A DARK, BARRED or ENGAGED set stays as it is through grants. -/
theorem Granting.setRec_fixed {s t : State} (h : Granting s t) {n : Nat}
    (fixed : (s.setRec n).state = .dark ∨ (s.setRec n).state = .barred ∨ (s.setRec n).state = .engaged) :
    t.setRec n = s.setRec n := by
  obtain same | ⟨-, notDark, notBarred, engaged⟩ := h.sets n
  · exact same
  · obtain dark | barred | already := fixed
    · exact absurd dark notDark
    · exact absurd barred notBarred
    · rw [engaged, ← already]

/-- Where no set changed its state, a mover can become trusted only by losing a FAULTED claim. -/
theorem trustGained_eq_false {s t : State} {m : Mover} (bonds : t.bonds = s.bonds)
    (states : ∀ k, (t.setRec k).state = (s.setRec k).state)
    (faulted : ∀ c, s.claimOf m = some c → c.state = .faulted → t.claimOf m = some c) : trustGained s t [m] = false := by
  have kept : s.untrusted m = true → t.untrusted m = true := by
    have members : t.members m = s.members m := by cases m <;> simp only [State.members, bond?_congr bonds]
    simp only [State.untrusted, Bool.or_eq_true, members, states]
    refine Or.imp_right fun claimed => ?_
    obtain ⟨c, claim, cause⟩ := (Option.any_eq_true _ _).1 claimed
    exact (Option.any_eq_true _ _).2 ⟨c, faulted c claim (of_decide_eq_true cause), cause⟩
  simpa [trustGained] using kept

/-! ## A report at the Set Registry (R9, R10, R12) -/

theorem rollCall_lastReport (s : State) (n : Nat) (u : Setup) (r : Report) (x : SetRec) :
    (s.rollCall n u r x).lastReport = x.lastReport := by
  unfold State.rollCall
  repeat' split
  all_goals rfl

theorem restTests_lastReport (s : State) (n : Nat) (u : Setup) (r : Report) (x : SetRec) :
    (s.restTests n u r x).lastReport = x.lastReport := by
  unfold State.restTests
  repeat' split
  all_goals rfl

/-- The record of set `n` with the report `r` recorded, before any test. -/
def State.recorded (s : State) (n : Nat) (r : Report) : SetRec := { s.setRec n with lastReport := some r }

/-- A set's record after a report, by the state it is in (R9). -/
theorem reported_eq (s : State) (n : Nat) (u : Setup) (r : Report) : s.reported n u r =
    if (s.setRec n).state = .dark ∧ (s.setRec n).identityVerified = true then s.rollCall n u r (s.recorded n r)
    else if (s.setRec n).state = .resting ∧ s.liveClaim (s.moverOf n) = none then s.restTests n u r (s.recorded n r)
    else s.recorded n r := by
  unfold State.reported
  dsimp only
  split
  next dark =>
    split
    next verified => exact (if_pos ⟨dark, verified⟩).symm
    next unverified =>
      rw [if_neg fun h => unverified h.2, if_neg (by simp [dark])]
      rfl
  next resting =>
    have notDark : ¬ ((s.setRec n).state = .dark ∧ (s.setRec n).identityVerified = true) := by simp [resting]
    rw [if_neg notDark]
    split
    next live =>
      rw [if_neg fun h => by simp [h.2] at live]
      rfl
    next free => exact (if_pos ⟨resting, by simpa using free⟩).symm
  all_goals
    next state =>
      rw [if_neg (by simp [state]), if_neg (by simp [state])]
      rfl

theorem reported_lastReport (s : State) (n : Nat) (u : Setup) (r : Report) : (s.reported n u r).lastReport = some r := by
  rw [reported_eq]
  split
  · exact rollCall_lastReport ..
  · split
    · exact restTests_lastReport ..
    · rfl

/-- The outcome tests of a RESTING set without a live claim (R10). -/
theorem reported_resting {s : State} {n : Nat} (u : Setup) (r : Report) (resting : (s.setRec n).state = .resting)
    (free : s.liveClaim (s.moverOf n) = none) : s.reported n u r = s.restTests n u r (s.recorded n r) := by
  rw [reported_eq, if_neg (by simp [resting]), if_pos ⟨resting, free⟩]

/-- The roll call of a DARK set whose identity is verified (R12). -/
theorem reported_dark {s : State} {n : Nat} (u : Setup) (r : Report) (dark : (s.setRec n).state = .dark)
    (verified : (s.setRec n).identityVerified = true) : s.reported n u r = s.rollCall n u r (s.recorded n r) := by
  rw [reported_eq, if_pos ⟨dark, verified⟩]

/-- The sets that no test applies to (R9). -/
def State.Untested (s : State) (n : Nat) : Prop :=
  (s.setRec n).state = .engaged ∨ (s.setRec n).state = .barred ∨
    (s.setRec n).state = .dark ∧ (s.setRec n).identityVerified = false

theorem reported_untested {s : State} {n : Nat} (u : Setup) (r : Report) (untested : s.Untested n) :
    s.reported n u r = s.recorded n r := by
  rw [reported_eq]
  obtain engaged | barred | ⟨dark, unverified⟩ := untested
  · simp [engaged]
  · simp [barred]
  · simp [dark, unverified]

/-! ## A report taken: the notices and the pass -/

section
variable {s : State} {n : Nat} {u : Setup} {r : Report}

theorem registryReport_eq (configured : (s.setRec n).setup = some u) :
    s.registryReport n r = stateNotices s [s.moverOf n] (s.updSet n fun _ => s.reported n u r) := by
  unfold State.registryReport
  rw [configured]

theorem registryReport_setRec (range : 1 ≤ n ∧ n ≤ 128) (configured : (s.setRec n).setup = some u) (k : Nat) :
    (s.registryReport n r).setRec k = if k = n then s.reported n u r else s.setRec k := by
  have sets : (s.registryReport n r).sets = (s.updSet n fun _ => s.reported n u r).sets := by
    rw [registryReport_eq configured, stateNotices_frame]
  rw [setRec_congr sets, setRec_updSet]
  exact if_congr (and_iff_left range) rfl rfl

theorem registryReport_frame (s : State) (n : Nat) (r : Report) : s.registryReport n r =
    { s with sets := (s.registryReport n r).sets, claims := (s.registryReport n r).claims
             attention := (s.registryReport n r).attention } := by
  unfold State.registryReport
  split
  · rfl
  · rw [stateNotices_frame]
    rfl

theorem takeReport_frame (s : State) (n : Nat) (r : Report) : s.takeReport n r =
    { s with sets := (s.takeReport n r).sets, claims := (s.takeReport n r).claims, groups := (s.takeReport n r).groups
             pointer := (s.takeReport n r).pointer, served := (s.takeReport n r).served
             attention := (s.takeReport n r).attention } := by
  have pass := passIf_frame (s.reportTrusts n r) (s.registryReport n r)
  unfold State.takeReport
  rw [pass, registryReport_frame]

/-- After the report the pass can engage the set. -/
theorem takeReport_setRec (range : 1 ≤ n ∧ n ≤ 128) (configured : (s.setRec n).setup = some u) :
    (s.takeReport n r).setRec n = s.reported n u r ∨
      (s.takeReport n r).setRec n = { s.reported n u r with state := .engaged } := by
  have written := registryReport_setRec (r := r) range configured n
  rw [if_pos rfl] at written
  rw [← written]
  exact ((passIf_granting _ _).sets n).imp_right fun ⟨_, _, _, engaged⟩ => engaged

theorem takeReport_setRec_fixed (range : 1 ≤ n ∧ n ≤ 128) (configured : (s.setRec n).setup = some u)
    (fixed : (s.reported n u r).state = .dark ∨ (s.reported n u r).state = .barred ∨ (s.reported n u r).state = .engaged) :
    (s.takeReport n r).setRec n = s.reported n u r := by
  have written := registryReport_setRec (r := r) range configured n
  rw [if_pos rfl] at written
  rw [← written] at fixed ⊢
  exact (passIf_granting _ _).setRec_fixed fixed

theorem takeReport_lastReport (range : 1 ≤ n ∧ n ≤ 128) (configured : (s.setRec n).setup = some u) :
    ((s.takeReport n r).setRec n).lastReport = some r := by
  obtain same | engaged := takeReport_setRec (r := r) range configured
  · rw [same, reported_lastReport]
  · rw [engaged, ← reported_lastReport s n u r]

theorem takeReport_barred (range : 1 ≤ n ∧ n ≤ 128) (configured : (s.setRec n).setup = some u) {x : SetRec} {c : BarredCause}
    (barred : s.reported n u r = x.bar c) :
    ((s.takeReport n r).setRec n).state = .barred ∧ ((s.takeReport n r).setRec n).barredCause = some c := by
  rw [takeReport_setRec_fixed range configured (by rw [barred]; exact .inr (.inl rfl)), barred]
  exact ⟨rfl, rfl⟩

/-- A report that leaves a RESTING set without a live claim as it was starts no pass. -/
theorem takeReport_setRec_resting (range : 1 ≤ n ∧ n ≤ 128) (configured : (s.setRec n).setup = some u)
    (free : s.liveClaim (s.moverOf n) = none) (passed : s.reported n u r = s.recorded n r) :
    (s.takeReport n r).setRec n = s.recorded n r := by
  have written := registryReport_setRec (r := r) range configured
  have trust : s.reportTrusts n r = false := by
    refine trustGained_eq_false ?_ (fun k => ?_) fun c claimed faulted => ?_
    · rw [registryReport_frame]
    · rw [written]
      split
      · rename_i same
        rw [passed, same]
        rfl
      · rfl
    · have live : s.liveClaim (s.moverOf n) = some c := by
        rw [State.liveClaim, claimed]
        simp [ClaimRec.live, faulted]
      rw [free] at live
      cases live
  unfold State.takeReport
  rw [trust]
  exact (written n).trans ((if_pos rfl).trans passed)

theorem takeReport_untested (range : 1 ≤ n ∧ n ≤ 128) (configured : (s.setRec n).setup = some u) (untested : s.Untested n) :
    (s.takeReport n r).setRec n = s.recorded n r := by
  have same := reported_untested u r untested
  rw [← same]
  refine takeReport_setRec_fixed range configured ?_
  rw [same]
  obtain engaged | barred | ⟨dark, -⟩ := untested
  · exact .inr (.inr engaged)
  · exact .inr (.inl barred)
  · exact .inl dark

/-- The outcome tests of R10, the first that applies. -/
theorem takeReport_resting (range : 1 ≤ n ∧ n ≤ 128) (configured : (s.setRec n).setup = some u)
    (resting : (s.setRec n).state = .resting) (free : s.liveClaim (s.moverOf n) = none) :
    if r.status.isFault = true then
      ((s.takeReport n r).setRec n).state = .barred ∧ ((s.takeReport n r).setRec n).barredCause = some .station
    else if u.loadOk r.load = false then
      ((s.takeReport n r).setRec n).state = .barred ∧ ((s.takeReport n r).setRec n).barredCause = some .load
    else if s.drifted n r.position = true then
      ((s.takeReport n r).setRec n).state = .barred ∧ ((s.takeReport n r).setRec n).barredCause = some .drift
    else (s.takeReport n r).setRec n = s.recorded n r := by
  have tested := reported_resting u r resting free
  unfold State.restTests at tested
  split
  · rename_i fault
    exact takeReport_barred range configured (tested.trans (if_pos fault))
  · rename_i sound
    rw [if_neg sound] at tested
    split
    · rename_i load
      exact takeReport_barred range configured (tested.trans (if_pos (by simp [load])))
    · rename_i loaded
      rw [if_neg (by simpa using loaded)] at tested
      split
      · rename_i drift
        exact takeReport_barred range configured (tested.trans (if_pos drift))
      · rename_i settled
        exact takeReport_setRec_resting range configured free (tested.trans (if_neg settled))

/-- The roll call of R12, the first test that applies. -/
theorem takeReport_dark (range : 1 ≤ n ∧ n ≤ 128) (configured : (s.setRec n).setup = some u)
    (dark : (s.setRec n).state = .dark) (verified : (s.setRec n).identityVerified = true) :
    if r.status = .running ∨ r.status = .stopping then (s.takeReport n r).setRec n = s.recorded n r
    else if r.status.isFault = true then
      ((s.takeReport n r).setRec n).state = .barred ∧ ((s.takeReport n r).setRec n).barredCause = some .station
    else if u.inRange r.position = false then
      ((s.takeReport n r).setRec n).state = .barred ∧ ((s.takeReport n r).setRec n).barredCause = some .trim
    else if u.loadOk r.load = false then
      ((s.takeReport n r).setRec n).state = .barred ∧ ((s.takeReport n r).setRec n).barredCause = some .load
    else if (s.rollCallRegions n u r.position).all (s.fits [s.moverOf n]) = false then
      ((s.takeReport n r).setRec n).state = .barred ∧ ((s.takeReport n r).setRec n).barredCause = some .conflict
    else ((s.takeReport n r).setRec n).restPosition = some r.position ∧
      (((s.takeReport n r).setRec n).state = .resting ∨ ((s.takeReport n r).setRec n).state = .engaged) := by
  have tested := reported_dark u r dark verified
  unfold State.rollCall at tested
  split
  · rename_i moving
    rw [if_pos moving] at tested
    rw [takeReport_setRec_fixed range configured (by rw [tested]; exact .inl dark), tested]
  rename_i still
  rw [if_neg still] at tested
  split
  · rename_i fault
    exact takeReport_barred range configured (tested.trans (if_pos fault))
  rename_i sound
  rw [if_neg sound] at tested
  split
  · rename_i outside
    exact takeReport_barred range configured (tested.trans (if_pos (by simp [outside])))
  rename_i inside
  rw [if_neg (by simpa using inside)] at tested
  split
  · rename_i load
    exact takeReport_barred range configured (tested.trans (if_pos (by simp [load])))
  rename_i loaded
  rw [if_neg (by simpa using loaded), ← List.not_all_eq_any_not] at tested
  split
  · rename_i conflict
    exact takeReport_barred range configured (tested.trans (if_pos (by rw [conflict]; rfl)))
  rename_i clear
  rw [if_neg (by simpa using clear)] at tested
  obtain same | engaged := takeReport_setRec (r := r) range configured
  · rw [same, tested]
    exact ⟨rfl, .inl rfl⟩
  · rw [engaged, tested]
    exact ⟨rfl, .inr rfl⟩

end

/-! ## An IDENT report at the Set Registry (R11) -/

theorem identified_eq (x : SetRec) (n k : Nat) : x.identified n k =
    if x.state = .dark ∧ x.identityVerified = false then if k = n then { x with identityVerified := true } else x.bar .identity
    else x := by simp [SetRec.identified]

theorem afterSetChange_setRec_fixed {before s : State} {n k : Nat}
    (fixed : (s.setRec k).state = .dark ∨ (s.setRec k).state = .barred ∨ (s.setRec k).state = .engaged) :
    (State.afterSetChange before s n).setRec k = s.setRec k := by
  have noticed : (stateNotices before [before.moverOf n] s).setRec k = s.setRec k :=
    setRec_congr (by rw [stateNotices_frame]) k
  rw [← noticed] at fixed ⊢
  exact (passIf_granting _ _).setRec_fixed fixed

/-- A change that leaves every set in its state, and the claims alone, starts no pass. -/
theorem afterSetChange_still {before s : State} {n : Nat} (bonds : s.bonds = before.bonds) (claims : s.claims = before.claims)
    (states : ∀ k, (s.setRec k).state = (before.setRec k).state) (k : Nat) :
    (State.afterSetChange before s n).setRec k = s.setRec k := by
  have trust : trustGained before s [before.moverOf n] = false :=
    trustGained_eq_false bonds states fun c claimed _ => by rwa [State.claimOf, claims]
  unfold State.afterSetChange
  rw [trust]
  exact setRec_congr (congrArg State.sets (stateNotices_frame before [before.moverOf n] s)) k

theorem registryIdent_setRec (s : State) {n : Nat} (range : 1 ≤ n ∧ n ≤ 128) (k : Nat) :
    (s.registryIdent n k).setRec n = (s.setRec n).identified n k := by
  have written : ∀ m, (s.updSet n fun x => x.identified n k).setRec m =
      if m = n then (s.setRec n).identified n k else s.setRec m := fun m =>
    (setRec_updSet s n m _).trans (if_congr (and_iff_left range) rfl rfl)
  have self := (written n).trans (if_pos rfl)
  rw [← self]
  by_cases unverified : (s.setRec n).state = .dark ∧ (s.setRec n).identityVerified = false
  · refine afterSetChange_setRec_fixed ?_
    rw [self, identified_eq, if_pos unverified]
    split
    · exact .inl unverified.1
    · exact .inr (.inl rfl)
  · refine afterSetChange_still (before := s) (s := s.updSet n fun x => x.identified n k) rfl rfl (fun m => ?_) n
    rw [written, identified_eq, if_neg unverified]
    split
    · rename_i same
      rw [same]
    · rfl

/-- An IDENT report taken: what becomes of the set (R11). -/
theorem registryIdent_settled (s : State) {n : Nat} (range : 1 ≤ n ∧ n ≤ 128) (k : Nat) :
    if (s.setRec n).state = .dark ∧ (s.setRec n).identityVerified = false then
      if k = n then (s.registryIdent n k).setRec n = { s.setRec n with identityVerified := true }
      else ((s.registryIdent n k).setRec n).state = .barred ∧ ((s.registryIdent n k).setRec n).barredCause = some .identity
    else (s.registryIdent n k).setRec n = s.setRec n := by
  rw [registryIdent_setRec s range, identified_eq]
  split
  · split
    · rfl
    · exact ⟨rfl, rfl⟩
  · rfl

theorem registryIdent_frame (s : State) (n k : Nat) : s.registryIdent n k =
    { s with sets := (s.registryIdent n k).sets, claims := (s.registryIdent n k).claims, groups := (s.registryIdent n k).groups
             pointer := (s.registryIdent n k).pointer, served := (s.registryIdent n k).served
             attention := (s.registryIdent n k).attention } := by
  unfold State.registryIdent
  rw [afterSetChange_frame]
  rfl

/-! ## A fresh-flag notice at the Travel Monitor (R124) -/

theorem freshCleared_free {s : State} {n : Nat} (free : s.liveClaim (s.moverOf n) = none) : s.freshCleared n = s := by
  unfold State.freshCleared
  rw [free]

/-- The claim with the fresh report of its member for set `n` emptied. -/
def ClaimRec.freshEmptied (c : ClaimRec) (n : Nat) : ClaimRec := c.updSup fun x => x.updMember n fun m => { m with fresh := none }

theorem freshCleared_live {s : State} {n : Nat} {c : ClaimRec} (live : s.liveClaim (s.moverOf n) = some c) :
    s.freshCleared n = s.updClaim c.number fun d => d.freshEmptied n := by
  unfold State.freshCleared
  rw [live]
  rfl

theorem freshCleared_frame (s : State) (n : Nat) : s.freshCleared n = { s with claims := (s.freshCleared n).claims } := by
  cases claim : s.liveClaim (s.moverOf n) with
  | none => rw [freshCleared_free claim]
  | some c => rw [freshCleared_live claim, updClaim_frame]

theorem freshEmptied_member {c : ClaimRec} {n : Nat} {m : SupMember} (member : m ∈ (c.freshEmptied n).supMembers)
    (same : m.set = n) : m.fresh = none := by
  unfold ClaimRec.freshEmptied ClaimRec.updSup ClaimRec.supMembers at member
  cases sup : c.sup with
  | none => simp [sup] at member
  | some x =>
    rw [sup] at member
    obtain ⟨before, -, rfl⟩ := List.mem_map.1 member
    by_cases of : before.set = n
    · rw [if_pos of]
    · rw [if_neg of] at same
      exact absurd same of

/-- The live claim keeps its number and its state, and its member's fresh report is empty. -/
theorem freshCleared_claim {s : State} {n : Nat} {c : ClaimRec} (numbers : NumbersDistinct s)
    (live : s.liveClaim (s.moverOf n) = some c) :
    ∃ d, (s.freshCleared n).claim? c.number = some d ∧ d.state = c.state ∧ ∀ m ∈ d.supMembers, m.set = n → m.fresh = none := by
  refine ⟨c.freshEmptied n, ?_, rfl, fun m => freshEmptied_member⟩
  rw [freshCleared_live live, State.updClaim, claim?_mapClaims _ _ (fun d => by split <;> rfl),
    claim?_of_mem numbers.1 (mem_of_liveClaim live).1]
  exact congrArg some (if_pos rfl)

/-! ## The oldest hand-off of a line (log entry 5) -/

section
variable {s : State} {f : Segment}

theorem takeOutcome_cons {x : OutcomeNote} {xs : List OutcomeNote} (line : (s.bus f).outcomes = x :: xs) :
    s.takeOutcome f = (s.updBus f fun b => { b with outcomes := xs }).putFaultSummary x.set
      ((s.faultSummary x.set).take x.cls x.raw) := by
  unfold State.takeOutcome
  rw [line]
  rfl

theorem takeSetReport_cons {x : SetReportNote} {xs : List SetReportNote} (line : (s.bus f).setReports = x :: xs) :
    s.takeSetReport f = (s.updBus f fun b => { b with setReports := xs }).takeReport x.set x.report := by
  unfold State.takeSetReport
  rw [line]

theorem takeIdent_cons {x : IdentNote} {xs : List IdentNote} (line : (s.bus f).identReports = x :: xs) :
    s.takeIdent f = (s.updBus f fun b => { b with identReports := xs }).registryIdent x.set x.commissioned := by
  unfold State.takeIdent
  rw [line]

theorem takeFreshNotice_cons {y : FreshNotice} {xs : List FreshNotice} (line : (s.bus f).freshNotices = y :: xs) :
    s.takeFreshNotice f = (s.updBus f fun b => { b with freshNotices := xs }).freshCleared y.set := by
  unfold State.takeFreshNotice
  rw [line]

end

/-! ## What the Set Registry's tests read is no part of a controller -/

section
variable (s : State) (f : Segment) (g : Bus → Bus)

theorem updBus_setRec (n : Nat) : (s.updBus f g).setRec n = s.setRec n := rfl
theorem updBus_moverOf (n : Nat) : (s.updBus f g).moverOf n = s.moverOf n := rfl
theorem updBus_liveClaim (m : Mover) : (s.updBus f g).liveClaim m = s.liveClaim m := rfl
theorem updBus_drifted (n : Nat) (p : Int) : (s.updBus f g).drifted n p = s.drifted n p := rfl
theorem updBus_fits (own : List Mover) : (s.updBus f g).fits own = s.fits own := rfl
theorem updBus_rollCallRegions (n : Nat) (u : Setup) (p : Int) :
    (s.updBus f g).rollCallRegions n u p = s.rollCallRegions n u p := rfl

end

/-- Settles O51: each hand-off leaves its line, and its block takes it on records that differ from those before it by that line
alone. -/
theorem handOffsTaken : Obligations.HandOffsTaken := by
  refine ⟨fun f x xs s line lo hi => ?_, fun f x xs u r s line report lo hi configured => ?_,
    fun f x xs s line lo hi => ?_, fun f y xs s line => ?_⟩
  · refine ⟨_, congrArg Host.Outcome.next (takeOutcome_cons line), rfl, rfl, rfl, ?_, fun n other => ?_⟩
    · exact (faultSummary_putFaultSummary _ _ _ _).trans (if_pos ⟨rfl, lo, hi⟩)
    · exact (faultSummary_putFaultSummary _ _ _ _).trans (if_neg fun h => other h.1)
  · subst report
    have range : 1 ≤ x.set ∧ x.set ≤ 128 := ⟨lo, hi⟩
    have frame := takeReport_frame (s.updBus f fun b => { b with setReports := xs }) x.set x.report
    have configured : ((s.updBus f fun b => { b with setReports := xs }).setRec x.set).setup = some u := configured
    have untested := takeReport_untested (r := x.report) range configured
    have resting := takeReport_resting (r := x.report) range configured
    have dark := takeReport_dark (r := x.report) range configured
    simp only [State.Untested, State.recorded, updBus_setRec, updBus_moverOf, updBus_liveClaim, updBus_drifted, updBus_fits,
      updBus_rollCallRegions] at untested resting dark
    refine ⟨_, congrArg Host.Outcome.next (takeSetReport_cons line), ?_, ?_, takeReport_lastReport range configured, untested,
      resting, dark⟩
    · rw [frame]
      rfl
    · rw [frame]
      rfl
  · have ident := registryIdent_settled (s.updBus f fun b => { b with identReports := xs }) ⟨lo, hi⟩ x.commissioned
    simp only [updBus_setRec] at ident
    have frame := registryIdent_frame (s.updBus f fun b => { b with identReports := xs }) x.set x.commissioned
    refine ⟨_, congrArg Host.Outcome.next (takeIdent_cons line), ?_, ?_, ident⟩
    · rw [frame]
      rfl
    · rw [frame]
      rfl
  · have frame := freshCleared_frame (s.updBus f fun b => { b with freshNotices := xs }) y.set
    refine ⟨_, congrArg Host.Outcome.next (takeFreshNotice_cons line), ?_, ?_, fun free => ?_,
      fun c numbers live => freshCleared_claim numbers live⟩
    · rw [frame]
      rfl
    · rw [frame]
      rfl
    · rw [freshCleared_free (s := s.updBus f _) free]
      rfl

end Sys2Proof.Machine
end

section
/-! SUPPORT. The commands waiting are no record of a block: each shared operation leaves the queue as it is. -/

namespace Sys2Proof.Machine

variable (s : State)

/-! ## The shared operations, by their frames -/

/-- A step whose frame leaves out the queue. -/
theorem pending_of_frame {s t u : State} (frame : t = u) (same : u.pending = s.pending) : t.pending = s.pending := frame ▸ same

theorem PassFrame.pending {s t : State} (h : PassFrame s t) : t.pending = s.pending := pending_of_frame h rfl

@[simp] theorem settle_pending : s.settle.pending = s.pending := rfl

@[simp] theorem latchIf_pending (b : Bool) (src : Source) : (latchIf b src s).pending = s.pending :=
  pending_of_frame (latchIf_frame b src s) rfl

@[simp] theorem engage_pending (m : Mover) : (s.engage m).pending = s.pending := pending_of_frame (engage_frame s m) rfl

@[simp] theorem grant_pending (c : ClaimRec) (v : Nat) (p : Plan) : (s.grant c v p).pending = s.pending :=
  pending_of_frame (grant_frame s c v p) rfl

@[simp] theorem create_pending (c : ClaimRec) : (s.create c).pending = s.pending := pending_of_frame (create_frame s c) rfl

@[simp] theorem removeWaiting_pending (c : ClaimRec) : (s.removeWaiting c).pending = s.pending :=
  pending_of_frame (removeWaiting_frame s c) rfl

@[simp] theorem dissolveGroup_pending (g : Nat) (x : GroupRec) : (s.dissolveGroup g x).pending = s.pending :=
  pending_of_frame (dissolveGroup_frame s g x) rfl

@[simp] theorem groupDrop_pending (c : ClaimRec) : (s.groupDrop c).pending = s.pending :=
  pending_of_frame (groupDrop_frame s c) rfl

@[simp] theorem removeLive_pending (c : ClaimRec) (e : Ending) : (s.removeLive c e).pending = s.pending :=
  pending_of_frame (removeLive_frame s c e) rfl

@[simp] theorem faultClaim_pending (c : ClaimRec) (k : FaultCause) : (s.faultClaim c k).pending = s.pending :=
  pending_of_frame (faultClaim_frame s c k) rfl

@[simp] theorem pass_pending : s.pass.pending = s.pending := (pass_frame s).pending

@[simp] theorem passIf_pending (b : Bool) : (passIf b s).pending = s.pending := (passIf_frame b s).pending

@[simp] theorem enterStopped_pending : s.enterStopped.pending = s.pending := pending_of_frame (enterStopped_frame s) rfl

@[simp] theorem enterRun_pending : s.enterRun.pending = s.pending := pass_pending _

@[simp] theorem regained_pending (l : Link) : (s.regained l).pending = s.pending := pass_pending _

@[simp] theorem takeReport_pending (n : Nat) (r : Report) : (s.takeReport n r).pending = s.pending :=
  pending_of_frame (takeReport_frame s n r) rfl

@[simp] theorem registryReport_pending (n : Nat) (r : Report) : (s.registryReport n r).pending = s.pending :=
  pending_of_frame (registryReport_frame s n r) rfl

@[simp] theorem registryIdent_pending (n k : Nat) : (s.registryIdent n k).pending = s.pending :=
  pending_of_frame (registryIdent_frame s n k) rfl

@[simp] theorem freshCleared_pending (n : Nat) : (s.freshCleared n).pending = s.pending :=
  pending_of_frame (freshCleared_frame s n) rfl

/-- After a change of a set's record: the notices and a pass. -/
@[simp] theorem afterSetChange_pending (before : State) (n : Nat) : (State.afterSetChange before s n).pending = s.pending :=
  pending_of_frame (afterSetChange_frame before s n) rfl

@[simp] theorem loopEnd_pending (f : Segment) (x : LoopRun) : (s.loopEnd f x).pending = s.pending := pass_pending _

end Sys2Proof.Machine
end

section
/-! PROOF. A step takes the front command (O1); every command answers a next state and keeps the queue (O3). -/

namespace Sys2Proof.Machine

section

variable (s : State)

/-! ## The requests on claims and groups -/

theorem claimInGroup_pending (c : ClaimRec) (g : Nat) (x : GroupRec) : (s.claimInGroup c g x).pending = s.pending :=
  (passIf_pending _ _).trans (create_pending s c)

theorem claimOutcome_pending (l : Link) (q : ClaimReq) (n : Nat) : (s.claimOutcome l q n).1.pending = s.pending := by
  unfold State.claimOutcome
  dsimp only
  split
  · split
    · exact (engage_pending _ _).trans (create_pending s _)
    · rfl
  · split
    · exact claimInGroup_pending s _ _ _
    · split
      · exact (grant_pending _ _ _ _).trans (create_pending s _)
      · split
        · exact create_pending s _
        · rfl

theorem serveClaim_pending (l : Link) (q : ClaimReq) : (serveClaim l q s).1.pending = s.pending := by
  unfold serveClaim
  split
  · rfl
  · split
    · exact claimOutcome_pending s l q _
    · rfl

theorem onClaim_pending {n : Nat} {k : ClaimRec → State × Reply} (kept : ∀ c, (k c).1.pending = s.pending) :
    (s.onClaim n k).1.pending = s.pending := by
  unfold State.onClaim
  split
  · exact kept _
  · rfl

theorem onOwnClaim_pending {l : Link} {n : Nat} {k : ClaimRec → State × Reply} (kept : ∀ c, (k c).1.pending = s.pending) :
    (s.onOwnClaim l n k).1.pending = s.pending :=
  onClaim_pending s fun c => by
    split
    · exact kept c
    · rfl

theorem acceptRetarget_pending (c : ClaimRec) (q : RetargetReq) (targets : List (Nat × Int)) (v : Nat) (new old : Region) :
    (s.acceptRetarget c q targets v new old).pending = s.pending := by
  refine (passIf_pending _ _).trans ?_
  split <;> rfl

theorem retargetLive_pending (c : ClaimRec) (q : RetargetReq) : (s.retargetLive c q).1.pending = s.pending := by
  unfold State.retargetLive
  dsimp only
  split
  · rfl
  · split
    · split
      · rfl
      · exact acceptRetarget_pending s c q _ _ _ _
    · rfl
    · rfl

theorem serveRetarget_pending (l : Link) (q : RetargetReq) : (serveRetarget l q s).1.pending = s.pending :=
  onOwnClaim_pending s fun c => by
    split
    · rfl
    · split
      · exact pass_pending _
      · exact retargetLive_pending s c q

theorem serveRetire_pending (l : Link) (n : Nat) : (serveRetire l n s).1.pending = s.pending :=
  onOwnClaim_pending s fun c => by
    cases c.state with
    | waiting => exact (groupDrop_pending _ c).trans (removeWaiting_pending s c)
    | granted | moving | held | retiring => rfl
    | arrived | standing | faulted => exact (pass_pending _).trans (removeLive_pending s c _)

theorem serveHoldClaim_pending (n : Nat) : (serveHoldClaim n s).1.pending = s.pending :=
  onClaim_pending s fun _ => by split <;> rfl

theorem serveReleaseClaim_pending (l : Link) (n : Nat) : (serveReleaseClaim l n s).1.pending = s.pending :=
  onOwnClaim_pending s fun _ => by
    split
    · rfl
    · split <;> rfl

theorem serveAdopt_pending (l : Link) (src : Nat) : (serveAdopt l src s).1.pending = s.pending := by
  unfold serveAdopt
  split
  · rfl
  · split
    · rfl
    · split
      · rfl
      · exact pass_pending _

theorem serveWarmRestart_pending : (serveWarmRestart s).1.pending = s.pending := by
  unfold serveWarmRestart
  split <;> rfl

theorem serveOpenGroup_pending (l : Link) (q : OpenGroupReq) : (serveOpenGroup l q s).1.pending = s.pending := by
  unfold serveOpenGroup
  split <;> rfl

theorem onOwnGroup_pending {l : Link} {g : Nat} {k : GroupRec → State × Reply} (kept : ∀ x, (k x).1.pending = s.pending) :
    (s.onOwnGroup l g k).1.pending = s.pending := by
  unfold State.onOwnGroup State.onGroup
  split
  · dsimp only
    split
    · exact kept _
    · rfl
  · rfl

theorem serveCloseGroup_pending (l : Link) (g : Nat) : (serveCloseGroup l g s).1.pending = s.pending :=
  onOwnGroup_pending s fun _ => by
    split
    · rfl
    · exact pass_pending _

theorem serveCancelGroup_pending (l : Link) (g : Nat) : (serveCancelGroup l g s).1.pending = s.pending :=
  onOwnGroup_pending s fun x => by
    split
    · rfl
    · exact dissolveGroup_pending s g x

/-! ## The requests on keep-outs, the attention, the stop and the holds -/

theorem serveAddKeepout_pending (q : KeepoutReq) : (serveAddKeepout q s).1.pending = s.pending := by
  unfold serveAddKeepout
  split
  · rfl
  · split <;> rfl

theorem serveRetireKeepout_pending (n : Nat) : (serveRetireKeepout n s).1.pending = s.pending := by
  unfold serveRetireKeepout
  split
  · rfl
  · exact pass_pending _

theorem serveClearAttention_pending (q : ClearReq) : (serveClearAttention q s).1.pending = s.pending := by
  unfold serveClearAttention
  split <;> rfl

theorem serveClearFaults_pending (n : Option Nat) : (serveClearFaults n s).1.pending = s.pending := by
  cases n <;> rfl

theorem serveStop_pending : (serveStop s).1.pending = s.pending := by
  unfold serveStop
  split
  · rfl
  · dsimp only
    split <;> exact enterStopped_pending s

theorem serveHoldAll_pending : (serveHoldAll s).1.pending = s.pending := latchIf_pending _ _ _

theorem serveReleaseAll_pending : (serveReleaseAll s).1.pending = s.pending := passIf_pending _ _

theorem serveResume_pending : (serveResume s).1.pending = s.pending := by
  unfold serveResume
  split
  · exact enterRun_pending s
  · rfl
  · rfl

/-- SET PARAMETER writes the parameter named and nothing else. -/
theorem applyParam_pending (p : Param) (v : Nat) : (applyParam p v s).1.pending = s.pending := by
  cases p with
  | clearance =>
    show (setClearance v s).1.pending = s.pending
    unfold setClearance
    split
    · rfl
    · split <;> rfl
  | _ => rfl

theorem serveSetParameter_pending (p : ParamName) (v : Nat) : (serveSetParameter p v s).1.pending = s.pending := by
  unfold serveSetParameter
  split
  · rfl
  · exact applyParam_pending s _ v

theorem serveLoopTest_pending (k : Nat) : (serveLoopTest k s).1.pending = s.pending := by
  unfold serveLoopTest
  split
  · rfl
  · split
    · rfl
    · split <;> rfl

/-! ## The Set Registry's requests -/

theorem serveConfigureSet_pending (q : ConfigureReq) : (serveConfigureSet q s).1.pending = s.pending := by
  cases check : s.configureCheck q with
  | some r => rw [serveConfigureSet_refused check]
  | none =>
    rw [serveConfigureSet_taken check]
    exact pending_of_frame (configureTaken_frame s q) rfl

theorem serveReleaseSet_pending (n : Nat) : (serveReleaseSet n s).1.pending = s.pending := by
  cases check : s.releaseCheck n with
  | some r => rw [serveReleaseSet_refused check]
  | none =>
    rw [serveReleaseSet_taken check]
    exact pending_of_frame (releaseTaken_frame s n) rfl

theorem serveRehang_pending (q : RehangReq) : (serveRehang q s).1.pending = s.pending := by
  cases check : s.rehangCheck q with
  | some r => rw [serveRehang_refused check]
  | none =>
    rw [serveRehang_taken check]
    exact pending_of_frame (rehangTaken_frame s q) rfl

theorem serveLockHang_pending (n : Option Nat) : (serveLockHang n s).1.pending = s.pending := by
  cases n with
  | some k =>
    unfold serveLockHang
    dsimp only
    split <;> rfl
  | none => rfl

theorem serveUnlockHang_pending (n : Option Nat) : (serveUnlockHang n s).1.pending = s.pending := by
  cases n <;> rfl

theorem serveReinstate_pending (n : Nat) : (serveReinstate n s).1.pending = s.pending := by
  unfold serveReinstate
  split <;> rfl

theorem serveBind_pending (q : BindReq) : (serveBind q s).1.pending = s.pending := by
  unfold serveBind
  dsimp only
  split
  · rfl
  · split
    · rfl
    · split
      · rfl
      · exact pending_of_frame (bindTaken_frame s q _) rfl

theorem serveUnbind_pending (b : Nat) : (serveUnbind b s).1.pending = s.pending := by
  cases found : s.bond? b with
  | none => rw [serveUnbind_noSuch found]
  | some x =>
    cases check : s.unbindCheck x with
    | some r => rw [serveUnbind_refused found check]
    | none =>
      rw [serveUnbind_taken found check]
      exact pending_of_frame (unbindTaken_frame s b x) rfl

/-! ## Requests taken -/

theorem onGroup_pending {g : Nat} {k : GroupRec → State × Reply} (kept : ∀ x, (k x).1.pending = s.pending) :
    (s.onGroup g k).1.pending = s.pending := by
  unfold State.onGroup
  split
  · exact kept _
  · rfl

theorem serveLookupKeepout_pending (n : Nat) : (serveLookupKeepout n s).1.pending = s.pending := by
  unfold serveLookupKeepout
  split <;> rfl

theorem serveLookupBond_pending (b : Nat) : (serveLookupBond b s).1.pending = s.pending := by
  unfold serveLookupBond
  split <;> rfl

theorem serveLookupSegment_pending (f : Nat) : (serveLookupSegment f s).1.pending = s.pending := by
  unfold serveLookupSegment
  split <;> rfl

theorem serveLookupStation_pending (f a : Nat) : (serveLookupStation f a s).1.pending = s.pending := by
  unfold serveLookupStation
  split <;> rfl

theorem serveReadParameter_pending (p : ParamName) : (serveReadParameter p s).1.pending = s.pending := by
  unfold serveReadParameter
  split <;> rfl

theorem serve_pending (l : Link) (r : Request) : (serve l r s).1.pending = s.pending := by
  cases r with
  | stop => exact serveStop_pending s
  | holdAll => exact serveHoldAll_pending s
  | holdClaim n => exact serveHoldClaim_pending s n
  | releaseAll => exact serveReleaseAll_pending s
  | resume => exact serveResume_pending s
  | claim q => exact serveClaim_pending s l q
  | retarget q => exact serveRetarget_pending s l q
  | retire n => exact serveRetire_pending s l n
  | releaseClaim n => exact serveReleaseClaim_pending s l n
  | addKeepout q => exact serveAddKeepout_pending s q
  | retireKeepout n => exact serveRetireKeepout_pending s n
  | warmRestart => exact serveWarmRestart_pending s
  | adopt n => exact serveAdopt_pending s l n
  | openGroup q => exact serveOpenGroup_pending s l q
  | closeGroup g => exact serveCloseGroup_pending s l g
  | cancelGroup g => exact serveCancelGroup_pending s l g
  | configureSet q => exact serveConfigureSet_pending s q
  | releaseSet n => exact serveReleaseSet_pending s n
  | rehang q => exact serveRehang_pending s q
  | lockHang n => exact serveLockHang_pending s n
  | unlockHang n => exact serveUnlockHang_pending s n
  | reinstate n => exact serveReinstate_pending s n
  | bind q => exact serveBind_pending s q
  | unbind b => exact serveUnbind_pending s b
  | loopTest f => exact serveLoopTest_pending s f
  | clearAttention q => exact serveClearAttention_pending s q
  | clearFaults n => exact serveClearFaults_pending s n
  | setParameter p v => exact serveSetParameter_pending s p v
  | presence => rfl
  | listClaims q => rfl
  | lookupSet n => rfl
  | readDigest => rfl
  | readAttention => rfl
  | lookupClaim n => exact onClaim_pending s fun _ => rfl
  | lookupKeepout n => exact serveLookupKeepout_pending s n
  | lookupGroup g => exact onGroup_pending s fun _ => rfl
  | lookupBond b => exact serveLookupBond_pending s b
  | lookupSegment f => exact serveLookupSegment_pending s f
  | lookupStation f a => exact serveLookupStation_pending s f a
  | readParameter p => exact serveReadParameter_pending s p

theorem answer_pending (l : Link) (r : Request) : (answer l r s).1.pending = s.pending := by
  unfold answer
  split
  · rfl
  · split
    · rfl
    · exact serve_pending s l r

theorem answerFrame_pending (l : Link) (x : Frame) : (answerFrame l x s).1.pending = s.pending := by
  unfold answerFrame
  split
  · rfl
  · split
    · rfl
    · split
      · rfl
      · exact answer_pending s l _

theorem takeRegular_pending (l : Link) (tag : Word16) (r : Request) : (takeRegular l tag r s).pending = s.pending := by
  unfold takeRegular
  split
  · exact answer_pending s l r
  · rfl

theorem takePriority_pending (l : Link) (tag : Word16) (r : Request) : (takePriority l tag r s).pending = s.pending := by
  unfold takePriority
  split
  · exact answer_pending s l r
  · rfl

theorem takeRequest_pending (l : Link) (tag : Word16) (r : Request) : (takeRequest l tag r s).pending = s.pending := by
  unfold takeRequest
  split
  · exact takePriority_pending s l tag r
  · exact takeRegular_pending s l tag r

/-! ## Events of a desk link -/

theorem takeSlot_pending (l : Link) : (s.takeSlot l).pending = s.pending := by
  unfold State.takeSlot
  split
  · rfl
  · split
    · exact answerFrame_pending _ l _
    · rfl

theorem takePosted_pending (l : Link) : (s.takePosted l).pending = s.pending := by
  unfold State.takePosted
  split
  · rfl
  · split
    · split
      · exact answerFrame_pending _ l _
      · rfl
    · rfl
    · rfl

theorem presenceEvent_pending (l : Link) : (s.presenceEvent l).pending = s.pending := by
  unfold State.presenceEvent
  dsimp only
  split
  · exact regained_pending _ l
  · rfl

theorem placeFrame_pending (l : Link) (d : Destination) (r : Frame) : (s.placeFrame l d r).pending = s.pending := by
  cases d with
  | layer n => rfl
  | overrun => rfl
  | slot => exact takeSlot_pending _ l

theorem frameEnd_pending (l : Link) (rest : List Byte) (e : Bool) : (s.frameEnd l rest e).pending = s.pending := by
  unfold State.frameEnd
  split
  · rfl
  · dsimp only
    split
    · exact (placeFrame_pending _ l _ _).trans (presenceEvent_pending _ l)
    · rfl

theorem unknownRequest_pending (l : Link) (tag : Word16) (k : Byte) :
    (if (s.link l).canQueue && !namesRequest k then queueReply l k tag (s, Reply.of .malformed) else s).pending = s.pending := by
  split <;> rfl

theorem presenceExpiry_pending (l : Link) : (s.presenceExpiry l).pending = s.pending := by
  unfold State.presenceExpiry
  split <;> rfl

/-! ## Events of a fly bus -/

theorem pollBuild_pending (f : Segment) : (s.pollBuild f).pending = s.pending := by
  unfold State.pollBuild
  dsimp only
  split
  · split
    · rfl
    · split <;> rfl
  · rfl

theorem staleFinding_pending (n : Nat) : (s.staleFinding n).pending = s.pending := by
  unfold State.staleFinding
  split
  · exact faultClaim_pending s _ _
  · exact afterSetChange_pending _ _ _

theorem judgeMiss_pending (f : Segment) (p : Poll) (k : MissKind) : (s.judgeMiss f p k).pending = s.pending := by
  unfold State.judgeMiss
  dsimp only
  split
  · exact staleFinding_pending _ _
  · rfl

theorem onPoll_pending {f : Segment} {g : Poll → State} (kept : ∀ p, (g p).pending = s.pending) :
    (s.onPoll f g).pending = s.pending := by
  unfold State.onPoll
  split
  · split
    · rfl
    · exact kept _
  all_goals rfl

theorem missPoll_pending (f : Segment) (k : MissKind) : (s.missPoll f k).pending = s.pending :=
  onPoll_pending s fun p => judgeMiss_pending s f p k

theorem reportComplete_pending (f : Segment) (r : WireReport) : (s.reportComplete f r).pending = s.pending :=
  onPoll_pending s fun p => by
    split
    · exact judgeMiss_pending s f p _
    · rfl

theorem breakDetected_pending (f : Segment) : (s.breakDetected f).pending = s.pending := by
  unfold State.breakDetected
  split <;> rfl

theorem breakEnd_pending (f : Segment) : (s.breakEnd f).pending = s.pending := by
  unfold State.breakEnd
  split
  · refine (passIf_pending _ _).trans ?_
    rw [settle_pending, mapClaims_pending]
    split <;> rfl
  · rfl

theorem testFrame_pending (f : Segment) (returned : List (Option LineChar)) : (s.testFrame f returned).pending = s.pending := by
  unfold State.testFrame
  split
  · rfl
  · split
    · rfl
    · dsimp only
      split
      · exact loopEnd_pending s f _
      · rfl

/-! ## Hand-offs taken -/

theorem takeStep_pending (c : ClaimRec) (n : Nat) (k : Content) (takes : Bool) : (s.takeStep c n k takes).pending = s.pending := by
  unfold State.takeStep
  dsimp only
  split
  · split
    · split <;> rfl
    · split
      · exact faultClaim_pending _ _ _
      · rfl
  · rfl

theorem arrival_pending (c : ClaimRec) : (s.arrival c).pending = s.pending := by
  unfold State.arrival
  split
  · exact groupDrop_pending _ c
  · exact removeLive_pending s c _

theorem stallProgress_pending (c : ClaimRec) : (s.stallProgress c).pending = s.pending := by
  unfold State.stallProgress
  split <;> rfl

theorem stopStep_pending (c : ClaimRec) (r : Report) (fresh : Bool) : (s.stopStep c r fresh).pending = s.pending := by
  unfold State.stopStep
  split
  · exact faultClaim_pending s c _
  · rfl

theorem progress_pending (c : ClaimRec) (n : Nat) (k : Content) (r : Report) (fresh takes : Bool) :
    (s.progress c n k r fresh takes).1.pending = s.pending := by
  unfold State.progress
  cases c.state with
  | granted => exact takeStep_pending s c n k takes
  | moving =>
    dsimp only
    split
    · exact arrival_pending s c
    · exact stallProgress_pending s c
  | held => exact (stopStep_pending _ c r fresh).trans (takeStep_pending s c n k takes)
  | retiring =>
    dsimp only
    split
    · exact removeLive_pending s c _
    · exact stopStep_pending s c r fresh
  | waiting | arrived | standing | faulted => rfl

theorem supervise_pending (c : ClaimRec) (x : TravelNote) (r : Report) (fresh : Bool) :
    (s.supervise c x r fresh).1.pending = s.pending := by
  unfold State.supervise
  dsimp only
  split
  · exact faultClaim_pending _ _ _
  · exact progress_pending _ _ _ _ _ _ _

theorem forward_pending (p : State × Bool) (n : Nat) (r : Report) : (State.forward p n r).pending = p.1.pending :=
  (passIf_pending _ _).trans (registryReport_pending p.1 n r)

theorem travelMiss_pending (c : ClaimRec) (x : TravelNote) : (s.travelMiss c x).pending = s.pending := by
  unfold State.travelMiss
  split
  · exact takeStep_pending s c _ _ false
  · rfl

theorem travel_pending (x : TravelNote) (fresh : Bool) : (s.travel x fresh).pending = s.pending := by
  unfold State.travel
  split
  · rfl
  · exact takeReport_pending s _ _
  · exact travelMiss_pending s _ x
  · split
    · exact forward_pending (s, false) _ _
    · exact (forward_pending _ _ _).trans (supervise_pending s _ x _ fresh)

theorem takeOutcome_pending (f : Segment) : (s.takeOutcome f).pending = s.pending := by
  unfold State.takeOutcome
  split <;> rfl

theorem takeSetReport_pending (f : Segment) : (s.takeSetReport f).pending = s.pending := by
  unfold State.takeSetReport
  split
  · rfl
  · exact takeReport_pending _ _ _

theorem takeIdent_pending (f : Segment) : (s.takeIdent f).pending = s.pending := by
  unfold State.takeIdent
  split
  · rfl
  · exact registryIdent_pending _ _ _

theorem takeTravel_pending (f : Segment) : (s.takeTravel f).pending = s.pending := by
  unfold State.takeTravel
  split
  · rfl
  · exact travel_pending _ _ _

theorem takeFreshNotice_pending (f : Segment) : (s.takeFreshNotice f).pending = s.pending := by
  unfold State.takeFreshNotice
  split
  · rfl
  · exact freshCleared_pending _ _

/-! ## Timers and the emergency-stop channels -/

theorem stallExpiry_pending (n : Nat) : (s.stallExpiry n).pending = s.pending := by
  unfold State.stallExpiry
  split
  · rfl
  · split
    · rfl
    · exact faultClaim_pending _ _ _

theorem stopRunOut_pending (n : Nat) : (s.stopRunOut n).pending = s.pending := by
  unfold State.stopRunOut
  split
  · rfl
  · split
    · rfl
    · dsimp only
      split
      · exact faultClaim_pending _ _ _
      · rfl

theorem deadlineExpiry_pending (n : Nat) : (s.deadlineExpiry n).pending = s.pending := by
  unfold State.deadlineExpiry
  split
  · rfl
  · split <;> rfl

theorem waitExpiry_pending (n : Nat) : (s.waitExpiry n).pending = s.pending := by
  unfold State.waitExpiry
  split
  · rfl
  · split
    · rfl
    · exact removeWaiting_pending _ _

theorem groupExpiry_pending (g : Nat) : (s.groupExpiry g).pending = s.pending := by
  unfold State.groupExpiry
  split
  · rfl
  · split
    · rfl
    · exact dissolveGroup_pending _ g _

theorem discrepancyExpiry_pending : s.discrepancyExpiry.pending = s.pending := by
  unfold State.discrepancyExpiry
  split <;> rfl

theorem channelEvent_pending (c : Channel) (low : Bool) : (s.channelEvent c low).pending = s.pending := by
  unfold State.channelEvent
  dsimp only
  split
  · rfl
  · split
    · split
      · rfl
      · exact enterStopped_pending _
    · split <;> rfl

/-! ## Every command -/

/-- A command that is no request answers a next state with the queue kept. -/
theorem exec_event_completes (i : Instr) (event : requestOf i = none) : ∃ t, exec i s = .next t ∧ t.pending = s.pending := by
  cases i
  case unknownRequest l tag k => exact ⟨_, rfl, unknownRequest_pending s l tag k⟩
  case deskFrameBegin l b => exact ⟨_, rfl, rfl⟩
  case deskFrameEnd l rest e => exact ⟨_, rfl, frameEnd_pending s l rest e⟩
  case postedRequestTaken l => exact ⟨_, rfl, takePosted_pending s l⟩
  case priorityRequestTaken l => exact ⟨_, rfl, takeSlot_pending s l⟩
  case responseTransmitStart l => exact ⟨_, rfl, rfl⟩
  case responseTransmitEnd l => exact ⟨_, rfl, rfl⟩
  case presenceWindowExpiry l => exact ⟨_, rfl, presenceExpiry_pending s l⟩
  case pollBuild f => exact ⟨_, rfl, pollBuild_pending s f⟩
  case responseWindowExpiry f => exact ⟨_, rfl, missPoll_pending s f _⟩
  case reportGapExpiry f => exact ⟨_, rfl, missPoll_pending s f _⟩
  case reportComplete f r => exact ⟨_, rfl, reportComplete_pending s f r⟩
  case reportUnreadable f why => exact ⟨_, rfl, missPoll_pending s f _⟩
  case setReport f => exact ⟨_, rfl, takeSetReport_pending s f⟩
  case identReport f => exact ⟨_, rfl, takeIdent_pending s f⟩
  case faultSummaryOutcome f => exact ⟨_, rfl, takeOutcome_pending s f⟩
  case tmPollOutcome f => exact ⟨_, rfl, takeTravel_pending s f⟩
  case freshFlagClearedNotice f => exact ⟨_, rfl, takeFreshNotice_pending s f⟩
  case stallTimerExpiry n => exact ⟨_, rfl, stallExpiry_pending s n⟩
  case stopWindowRunOut n => exact ⟨_, rfl, stopRunOut_pending s n⟩
  case deadlineExpiry n => exact ⟨_, rfl, deadlineExpiry_pending s n⟩
  case waitLimitExpiry n => exact ⟨_, rfl, waitExpiry_pending s n⟩
  case groupWaitLimitExpiry g => exact ⟨_, rfl, groupExpiry_pending s g⟩
  case estopChannelEvent c low => exact ⟨_, rfl, channelEvent_pending s c low⟩
  case discrepancyTimerExpiry => exact ⟨_, rfl, discrepancyExpiry_pending s⟩
  case breakDetected f => exact ⟨_, rfl, breakDetected_pending s f⟩
  case breakEnd f => exact ⟨_, rfl, breakEnd_pending s f⟩
  case testFrameCompared f cs => exact ⟨_, rfl, testFrame_pending s f cs⟩
  case coldReset p => exact ⟨_, rfl, rfl⟩
  all_goals cases event

end

/-- Settles O3: a request is taken by its owner and answered, an event writes its block's records; neither touches the queue. -/
theorem everyCommandCompletes : Obligations.EveryCommandCompletes := by
  intro c s
  cases request : requestOf c with
  | some p =>
    obtain ⟨l, tag, r⟩ := p
    exact ⟨_, exec_request s request, takeRequest_pending s l tag r⟩
  | none => exact exec_event_completes s c request

/-- Settles O1: on a queue that is not empty a step is its second branch. -/
theorem stepTakesFrontCommand : Obligations.StepTakesFrontCommand := by
  intro c rest s front
  rw [step, front]

end Sys2Proof.Machine
end
